-- ==== Sys2Proof/Word.lean ====
section
/-! DEFINITION. The plain types of the core: bytes, sequence bits, tags, the two roles, the two frame kinds, and the
configuration that BOOT carries. -/
namespace Sys2Proof

/-- A byte is 8 bits (00_scope.md R12). -/
abbrev Byte := BitVec 8

/-- A byte string, indexed from 0 (00_scope.md R12): a payload or a serialized frame. -/
abbrev Bytes := List Byte

/-- A frame's 1-bit sequence number (00_scope.md R18). -/
abbrev SeqBit := BitVec 1

/-- The register of the timer arbiter's generation tag, 32 bits wide (10_state.md R32); `GEN_W` of them count (00_scope.md
R10, log entry 12). -/
abbrev Gen := BitVec 32

/-- A link number, a small integer (20_memory.md R57). -/
abbrev Link := Nat

/-- The diagnostic text, as its characters (44_dispatcher.md R185). -/
abbrev Text := List Char

/-- The role of a node, fixed at boot (10_state.md R22). -/
inductive Role where
  | host
  | router
  deriving DecidableEq, Repr

/-- The two frame kinds (00_scope.md R18). -/
inductive Kind where
  | data
  | ack
  deriving DecidableEq, Repr

/-- The configuration an event BOOT carries (44_dispatcher.md R180). -/
structure BootCfg where
  role   : Role
  orig   : Bool
  nodeId : BitVec 16
  deriving DecidableEq, Repr

end Sys2Proof
end

