-- ==== Sys2Proof/Config.lean ====
section
/-! DEFINITION. The implementation parameters of 00_scope.md R10: "A model takes each one as an argument of the
configuration". Each is a field of one record of plain data, with the range the spec gives it. -/
namespace Sys2Proof

/-- Bandwidth and propagation delay of one link. The bandwidth is positive: "a configuration premise, so the division
never divides by zero" (41_timer.md R120). -/
structure LinkParams where
  bandwidthBps  : Nat
  propDelayUs   : Nat
  bandwidth_pos : 0 < bandwidthBps
  deriving DecidableEq, Repr

/-- `INTEGRITY`, a 16-bit function over a byte string (00_scope.md R10). "A model may substitute another 16-bit function,
but it must keep rule R106" (40_codec.md R104). DESIGN CHOICE (log entry 10): the functions that can be substituted are
the CRCs of 16 bits whose polynomial has a constant term, since the state is plain data and holds no function. -/
structure IntegrityParams where
  polynomial     : BitVec 16
  initialValue   : BitVec 16
  inputReflected  : Bool
  outputReflected : Bool
  finalXor       : BitVec 16
  polynomial_odd : polynomial.getLsbD 0 = true
  deriving DecidableEq, Repr

/-- CRC-16/CCITT-FALSE: "width 16, polynomial 0x1021, initial value 0xFFFF, input and output not reflected, final XOR
0x0000" (40_codec.md R104). -/
def crcCcittFalse : IntegrityParams where
  polynomial      := 0x1021#16
  initialValue    := 0xFFFF#16
  inputReflected  := false
  outputReflected := false
  finalXor        := 0x0000#16
  polynomial_odd  := by decide

/-- The parameters of one core (00_scope.md R10). `links` lists link numbers with their parameters, and `otherLinks` is
what every link it does not list has. Ranges that R10 does not give (log entry 12): a tag has 1 to 32 bits, since the
register and the port word are 32 bits wide (10_state.md R32, R38); the header has the 6 bytes that the layout of
30_encoding.md R70 fixes; a router's two links have different numbers. -/
structure Config where
  /-- `HDR_SIZE`, the serialized header size in bytes. -/
  hdrSize         : Nat
  hdrSize_eq      : hdrSize = 6
  /-- `MAX_MSG`, the maximum payload length in bytes. -/
  maxMsg          : Nat
  maxMsg_pos      : 1 ≤ maxMsg
  maxMsg_le       : maxMsg ≤ 65535
  /-- `INTEGRITY`. -/
  integrity       : IntegrityParams
  /-- `TIMEOUT_FACTOR`, the multiplier of the timeout. -/
  timeoutFactor   : Nat
  /-- `BANDWIDTH_BPS(l)` and `PROP_DELAY_US(l)` of the links of this core. -/
  links           : List (Link × LinkParams)
  otherLinks      : LinkParams
  /-- `GEN_W`, the width in bits of the timer generation tag. -/
  genW            : Nat
  genW_pos        : 1 ≤ genW
  genW_le         : genW ≤ 32
  /-- `HOST_LINK`, the link a host sends on. -/
  hostLink        : Link
  /-- `ROUTER_UP_LINK`, toward the upstream neighbour. -/
  routerUpLink    : Link
  /-- `ROUTER_DOWN_LINK`, toward the downstream neighbour. -/
  routerDownLink  : Link
  routerLinks_ne  : routerUpLink ≠ routerDownLink
  /-- `REACK_DUPLICATES`. -/
  reackDuplicates : Bool
  deriving DecidableEq, Repr

/-- Every parameter that is not OPEN has the value 00_scope.md R10 gives it. -/
structure Config.SpecValues (c : Config) : Prop where
  hdrSize         : c.hdrSize = 6
  integrity       : c.integrity = crcCcittFalse
  timeoutFactor   : c.timeoutFactor = 3
  genW            : c.genW = 32
  hostLink        : c.hostLink = 1
  routerUpLink    : c.routerUpLink = 1
  routerDownLink  : c.routerDownLink = 2
  reackDuplicates : c.reackDuplicates = false

/-- The values of 00_scope.md R10. DESIGN CHOICE (log entry 1): for the OPEN ones, those of the spec's own test vectors
(95_test_vectors.md section 0). -/
def Config.reference : Config where
  hdrSize         := 6
  hdrSize_eq      := rfl
  maxMsg          := 64
  maxMsg_pos      := by decide
  maxMsg_le       := by decide
  integrity       := crcCcittFalse
  timeoutFactor   := 3
  links           := []
  otherLinks      := { bandwidthBps := 56000, propDelayUs := 2500, bandwidth_pos := by decide }
  genW            := 32
  genW_pos        := by decide
  genW_le         := by decide
  hostLink        := 1
  routerUpLink    := 1
  routerDownLink  := 2
  routerLinks_ne  := by decide
  reackDuplicates := false

end Sys2Proof
end

