-- ==== Sys2Proof/Syntax.lean ====
section
/-! DEFINITION. The operations of the core, one constructor per row of the opcode table (30_encoding.md R82), each with
the operands its rule names. -/
namespace Sys2Proof

/-- One operation with its operands. -/
inductive Instr where
  /-- BOOT(cfg), 44_dispatcher.md R180. -/
  | boot (cfg : BootCfg)
  /-- H_DATA with the sequence bit and payload VALIDATE returned, 42_host.md R144. -/
  | hData (seq : SeqBit) (payload : Bytes)
  /-- H_TIMEOUT, 42_host.md R143. -/
  | hTimeout
  /-- H_SEND(p), 42_host.md R140. -/
  | hSend (payload : Bytes)
  /-- DIAG, 44_dispatcher.md R184. -/
  | diag
  /-- H_ACK with the ACK's sequence bit, 42_host.md R142. -/
  | hAck (seq : SeqBit)
  /-- R_DATA with the sequence bit and payload VALIDATE returned, 43_router.md R160. -/
  | rData (seq : SeqBit) (payload : Bytes)
  /-- R_TIMEOUT, 43_router.md R162. -/
  | rTimeout
  /-- R_PAYLOAD(p), 43_router.md R163. -/
  | rPayload (payload : Bytes)
  /-- R_ACK with the ACK's sequence bit, 43_router.md R161. -/
  | rAck (seq : SeqBit)
  /-- ENCODE(kind, seq, payload), 40_codec.md R100. -/
  | encode (kind : Kind) (seq : SeqBit) (payload : Bytes)
  /-- VALIDATE(B), 40_codec.md R102. -/
  | validate (bytes : Bytes)
  /-- TIMER_START(l, size), 41_timer.md R121. -/
  | timerStart (link : Link) (size : Nat)
  /-- TIMER_CANCEL, 41_timer.md R122. -/
  | timerCancel
  /-- TIMER_EXPIRE(g), 41_timer.md R123. -/
  | timerExpire (gen : Gen)
  deriving DecidableEq, Repr

end Sys2Proof
end

