-- ==== Sys2Proof/Decode.lean ====
section
/-! DEFINITION. The two encodings of the core (30_encoding.md): the wire frame with its checksum, and the 8-bit key that
selects an operation. Each has its decoder, total on every input and rejecting by name, and its encoder. -/
namespace Sys2Proof

/-! ## Bits and byte order -/

/-- "`v XOR 1` on a 1-bit value is the flip" (00_scope.md R12). -/
def flipBit (v : SeqBit) : SeqBit := v ^^^ 1#1

/-- `be16`: the more significant byte first (20_memory.md R50). -/
def be16 (hi lo : Byte) : BitVec 16 := hi ++ lo

/-- `v[15:8]`, the byte written first (20_memory.md R50). -/
def hiByte (v : BitVec 16) : Byte := v.extractLsb' 8 8

/-- `v[7:0]`, the byte written second (20_memory.md R50). -/
def loByte (v : BitVec 16) : Byte := v.extractLsb' 0 8

/-! ## The integrity function -/

/-- One of the eight shifts of the inner loop of 40_codec.md R104, with polynomial `poly`. -/
def crcShift (poly crc : BitVec 16) : BitVec 16 :=
  if crc.msb then (crc <<< 1) ^^^ poly else crc <<< 1

/-- One byte of the outer loop of 40_codec.md R104. -/
def crcByte (poly crc : BitVec 16) (b : Byte) : BitVec 16 :=
  let step := crcShift poly
  step (step (step (step (step (step (step (step (crc ^^^ (b.setWidth 16 <<< 8)))))))))

/-- The bits of `v` in the opposite order where `reflected` is set. -/
def reflectIf {n : Nat} (reflected : Bool) (v : BitVec n) : BitVec n := if reflected then v.reverse else v

/-- `Integrity(B)` (40_codec.md R104): the loop from the initial value over the bytes, then the final XOR. -/
def integrity (f : IntegrityParams) (bytes : Bytes) : BitVec 16 :=
  let crc := (bytes.map (reflectIf f.inputReflected)).foldl (crcByte f.polynomial) f.initialValue
  reflectIf f.outputReflected crc ^^^ f.finalXor

/-! ## The wire frame -/

/-- KIND encoding (30_encoding.md R71): `kcode` of 40_codec.md R100. -/
def kindCode : Kind → Byte
  | .data => 0x00#8
  | .ack  => 0x01#8

/-- The kind a KIND byte stands for; the values 0x02 to 0xFF are reserved (30_encoding.md R71). -/
def kindOfCode (b : Byte) : Option Kind :=
  if b = 0x00#8 then some .data else if b = 0x01#8 then some .ack else none

/-- SEQ encoding: the sequence bit in bit 0, bits 7:1 zero (30_encoding.md R72). -/
def seqCode (s : SeqBit) : Byte := s.setWidth 8

/-- The sequence bit of a SEQ byte; bits 7:1 "are reserved and must be 0" (30_encoding.md R72). -/
def seqOfCode (b : Byte) : Option SeqBit :=
  if b = 0x00#8 then some 0#1 else if b = 0x01#8 then some 1#1 else none

/-- The header and payload of a frame, the checksum given (30_encoding.md R70). -/
def frameWith (kind seq : Byte) (len ck : BitVec 16) (payload : Bytes) : Bytes :=
  kind :: seq :: hiByte len :: loByte len :: hiByte ck :: loByte ck :: payload

/-- The serialized frame of ENCODE (40_codec.md R100): the checksum is taken with the checksum field zero. -/
def frameBytes (cf : Config) (kind : Kind) (seq : SeqBit) (payload : Bytes) : Bytes :=
  let len := BitVec.ofNat 16 payload.length
  let ck := integrity cf.integrity (frameWith (kindCode kind) (seqCode seq) len 0#16 payload)
  frameWith (kindCode kind) (seqCode seq) len ck payload

/-- Why a received byte string is discarded (40_codec.md R102; the codes are in 60_exceptions.md R200). -/
inductive Discard where
  | short
  | checksum
  | length
  | format
  deriving DecidableEq, Repr

/-- What VALIDATE answers (40_codec.md R102). -/
inductive FrameResult where
  | discard (cause : Discard)
  | valid (kind : Kind) (seq : SeqBit) (payload : Bytes)
  deriving DecidableEq, Repr

/-- The last checks of VALIDATE (40_codec.md R102): the domains of KIND and SEQ and the bound on LEN. -/
def validateFields (maxMsg : Nat) (kind seq : Byte) (len : BitVec 16) (payload : Bytes) : FrameResult :=
  match kindOfCode kind, seqOfCode seq with
  | some .data, some s => if len.toNat ≤ maxMsg then .valid .data s payload else .discard .format
  | some .ack,  some s => if len = 0#16 then .valid .ack s payload else .discard .format
  | _,          _      => .discard .format

/-- VALIDATE(B): SHORT, CHECKSUM, LENGTH, FORMAT in that order, the first that fails gives the result
(40_codec.md R102). The first arm is every string of at least `HDR_SIZE` bytes. -/
def validateFrame (cf : Config) (bytes : Bytes) : FrameResult :=
  match bytes with
  | kind :: seq :: l1 :: l0 :: c1 :: c0 :: payload =>
    if be16 c1 c0 ≠ integrity cf.integrity (kind :: seq :: l1 :: l0 :: 0x00#8 :: 0x00#8 :: payload) then .discard .checksum
    else if bytes.length ≠ cf.hdrSize + (be16 l1 l0).toNat then .discard .length
    else validateFields cf.maxMsg kind seq (be16 l1 l0) payload
  | _ => .discard .short

/-- `B[i]` (00_scope.md R12). -/
def byteAt (bytes : Bytes) (i : Nat) : Byte := bytes.getD i 0x00#8

/-- `B'`: "`B` with bytes 4 and 5 set to 0x00" (30_encoding.md R74). -/
def zeroChecksum (bytes : Bytes) : Bytes := (bytes.set 4 0x00#8).set 5 0x00#8

/-- Legal frames, as 30_encoding.md R78 lists them. -/
abbrev legalFrame (cf : Config) (bytes : Bytes) : Prop :=
  6 ≤ bytes.length ∧
  be16 (byteAt bytes 4) (byteAt bytes 5) = integrity cf.integrity (zeroChecksum bytes) ∧
  bytes.length = 6 + (be16 (byteAt bytes 2) (byteAt bytes 3)).toNat ∧
  (byteAt bytes 0 = 0x00#8 ∨ byteAt bytes 0 = 0x01#8) ∧
  (byteAt bytes 1 = 0x00#8 ∨ byteAt bytes 1 = 0x01#8) ∧
  (byteAt bytes 0 = 0x01#8 → be16 (byteAt bytes 2) (byteAt bytes 3) = 0#16) ∧
  (byteAt bytes 0 = 0x00#8 → (be16 (byteAt bytes 2) (byteAt bytes 3)).toNat ≤ cf.maxMsg)

/-- `B` with exactly one bit inverted: bit `k` of byte `i` (40_codec.md R106). -/
def invertBit (bytes : Bytes) (i k : Nat) : Bytes := bytes.modify i fun b => b ^^^ (1#8 <<< k)

/-! ## The operation key -/

/-- The 8-bit key of 30_encoding.md R79 and R81. -/
abbrev Key := BitVec 8

/-- The operations, without operands: the mnemonics of 30_encoding.md R82. -/
inductive Op where
  | boot | hData | hTimeout | hSend | diag | hAck | rData | rTimeout | rPayload | rAck
  | encode | validate | timerStart | timerCancel | timerExpire
  deriving DecidableEq, Repr

/-- One row of the operation map: a mask bit of 1 "marks a bit that must match" (30_encoding.md R82). -/
structure KeyRow where
  op    : Op
  value : Key
  mask  : Key
  deriving DecidableEq, Repr

/-- The row matches the key. -/
def KeyRow.covers (r : KeyRow) (k : Key) : Bool := k &&& r.mask == r.value

/-- The event operations of 30_encoding.md R82. -/
def eventRows : List KeyRow := [
  { op := .boot,     value := 0x00#8, mask := 0xEF#8 },
  { op := .hData,    value := 0x01#8, mask := 0xFF#8 },
  { op := .hTimeout, value := 0x02#8, mask := 0xFF#8 },
  { op := .hSend,    value := 0x03#8, mask := 0xFF#8 },
  { op := .diag,     value := 0x04#8, mask := 0xEF#8 },
  { op := .hAck,     value := 0x09#8, mask := 0xFF#8 },
  { op := .rData,    value := 0x11#8, mask := 0xFF#8 },
  { op := .rTimeout, value := 0x12#8, mask := 0xFF#8 },
  { op := .rPayload, value := 0x13#8, mask := 0xFF#8 },
  { op := .rAck,     value := 0x19#8, mask := 0xFF#8 }]

/-- The internal unit operations of 30_encoding.md R82. -/
def unitRows : List KeyRow := [
  { op := .encode,      value := 0xE0#8, mask := 0xFF#8 },
  { op := .validate,    value := 0xE1#8, mask := 0xFF#8 },
  { op := .timerStart,  value := 0xE2#8, mask := 0xFF#8 },
  { op := .timerCancel, value := 0xE3#8, mask := 0xFF#8 },
  { op := .timerExpire, value := 0xE4#8, mask := 0xFF#8 }]

/-- The operation map (30_encoding.md R82). -/
def keyRows : List KeyRow := eventRows ++ unitRows

/-- The operation a key selects, if any row matches (30_encoding.md R82). -/
def opOfKey (k : Key) : Option Op := (keyRows.find? (·.covers k)).map (·.op)

/-- Why a key is reserved (30_encoding.md R83). -/
inductive ReservedKey where
  /-- CLASS is neither 000 nor 111. -/
  | badClass
  /-- KIND = 1 with EVT ≠ 001. -/
  | badKind
  /-- EVT is 101, 110 or 111. -/
  | badEvt
  /-- CLASS = 111 with bits 4:3 ≠ 00 or an operation code of 101 to 111. -/
  | badUnit
  deriving DecidableEq, Repr

/-- The name under which a key with no row is refused (30_encoding.md R83). -/
def reservedReason (k : Key) : ReservedKey :=
  let cls := k.extractLsb' 5 3
  let evt := k.extractLsb' 0 3
  if cls = 0b111#3 then .badUnit
  else if cls ≠ 0b000#3 then .badClass
  else if 0b101#3 ≤ evt then .badEvt
  else .badKind

/-- `CLASS = 000`: the key the dispatcher forms for an event (30_encoding.md R79). -/
def eventKey (role kind : BitVec 1) (evt : BitVec 3) : Key := 0b000#3 ++ role ++ kind ++ evt

/-- `CLASS = 111`, bits 4:3 = 00: the key of a unit operation (30_encoding.md R81). -/
def unitKey (code : BitVec 3) : Key := 0b111#3 ++ 0b00#2 ++ code

/-- The ROLE bit: 0 HOST, 1 ROUTER (30_encoding.md R79, 10_state.md R22). -/
def roleBit : Role → BitVec 1
  | .host   => 0#1
  | .router => 1#1

/-- The KIND bit: 0 DATA, 1 ACK (30_encoding.md R79). -/
def kindBit : Kind → BitVec 1
  | .data => 0#1
  | .ack  => 1#1

/-- The operands that come beside a key. The key has no operand bits (30_encoding.md R79 to R82): an event, VALIDATE's
answer or the calling rule gives them. DESIGN CHOICE (log entry 17): one record for all operations, an operand an
operation does not have being zero. -/
structure Operands where
  cfg   : BootCfg := { role := .host, orig := false, nodeId := 0#16 }
  kind  : Kind    := .data
  seq   : SeqBit  := 0#1
  bytes : Bytes   := []
  link  : Link    := 0
  size  : Nat     := 0
  gen   : Gen     := 0#32
  deriving DecidableEq, Repr

/-- A key with its operands: what the decoder reads. -/
structure KeyWord where
  key      : Key
  operands : Operands := {}
  deriving DecidableEq, Repr

/-- The operation with the operands its rule names. -/
def instrOf (op : Op) (o : Operands) : Instr :=
  match op with
  | .boot        => .boot o.cfg
  | .hData       => .hData o.seq o.bytes
  | .hTimeout    => .hTimeout
  | .hSend       => .hSend o.bytes
  | .diag        => .diag
  | .hAck        => .hAck o.seq
  | .rData       => .rData o.seq o.bytes
  | .rTimeout    => .rTimeout
  | .rPayload    => .rPayload o.bytes
  | .rAck        => .rAck o.seq
  | .encode      => .encode o.kind o.seq o.bytes
  | .validate    => .validate o.bytes
  | .timerStart  => .timerStart o.link o.size
  | .timerCancel => .timerCancel
  | .timerExpire => .timerExpire o.gen

/-- The decoder: the operation a key selects, or the name of the reason it is reserved (30_encoding.md R82, R83). -/
def decode (w : KeyWord) : Except ReservedKey Instr :=
  match opOfKey w.key with
  | some op => .ok (instrOf op w.operands)
  | none    => .error (reservedReason w.key)

/-- The encoder, from the bit fields of 30_encoding.md R79 and R81. For BOOT and DIAG the ROLE bit "is formed as 0"
(R82). -/
def encode : Instr → KeyWord
  | .boot cfg        => { key := eventKey 0#1 0#1 0b000#3, operands := { cfg := cfg } }
  | .hData s p       => { key := eventKey 0#1 0#1 0b001#3, operands := { seq := s, bytes := p } }
  | .hTimeout        => { key := eventKey 0#1 0#1 0b010#3 }
  | .hSend p         => { key := eventKey 0#1 0#1 0b011#3, operands := { bytes := p } }
  | .diag            => { key := eventKey 0#1 0#1 0b100#3 }
  | .hAck s          => { key := eventKey 0#1 1#1 0b001#3, operands := { seq := s } }
  | .rData s p       => { key := eventKey 1#1 0#1 0b001#3, operands := { seq := s, bytes := p } }
  | .rTimeout        => { key := eventKey 1#1 0#1 0b010#3 }
  | .rPayload p      => { key := eventKey 1#1 0#1 0b011#3, operands := { bytes := p } }
  | .rAck s          => { key := eventKey 1#1 1#1 0b001#3, operands := { seq := s } }
  | .encode k s p    => { key := unitKey 0b000#3, operands := { kind := k, seq := s, bytes := p } }
  | .validate b      => { key := unitKey 0b001#3, operands := { bytes := b } }
  | .timerStart l n  => { key := unitKey 0b010#3, operands := { link := l, size := n } }
  | .timerCancel     => { key := unitKey 0b011#3 }
  | .timerExpire g   => { key := unitKey 0b100#3, operands := { gen := g } }

/-- The key word of `nbits` bits of `w`, its operands zero. -/
def tableWord (nbits w : Nat) : KeyWord := { key := BitVec.ofNat 8 (w % 2 ^ nbits) }

/-- The instruction the decoder reads from a row of the opcode table: the bits of `w` are the key, and every operand is
zero. A word with a bit above the 8 of the key is none. -/
def decodeTableWord (nbits w : Nat) : Option Instr :=
  if w % 2 ^ nbits < 2 ^ 8 then (decode (tableWord nbits w)).toOption else none

end Sys2Proof
end

