-- ==== Sys2Proof/Machine/Events.lean ====
section
/-! DEFINITION. What crosses the core's border: input events, output actions, and what a unit operation returns. -/
namespace Sys2Proof.Machine

/-- "The input events of the core are exactly these" (00_scope.md R16). -/
inductive Event where
  | boot (cfg : BootCfg)
  | frame (link : Link) (bytes : Bytes)
  | timer (gen : Gen)
  | payload (p : Bytes)
  | diag
  deriving DecidableEq, Repr

/-- "The output actions of the core are exactly these" (00_scope.md R15). -/
inductive Action where
  | send (link : Link) (bytes : Bytes)
  | tstart (gen : Gen) (durationUs : Nat)
  | tcancel (gen : Gen)
  | deliver (payload : Bytes)
  | intake (on : Bool)
  | diagtext (text : Text)
  deriving DecidableEq, Repr

/-- What a unit operation returns to its caller: ENCODE a frame (40_codec.md R100), VALIDATE its answer (R102),
TIMER_EXPIRE whether it accepted (41_timer.md R123). -/
inductive UnitResult where
  | encoded (frame : Bytes)
  | validated (answer : FrameResult)
  | expiry (accepted : Bool)
  deriving DecidableEq, Repr

end Sys2Proof.Machine
end

