-- ==== Sys2Proof/Machine/State.lean ====
section
/-! DEFINITION. The state record of one core (10_state.md R20 to R34), the interface the step reads and writes, the
reasons a step can stop, and the state after reset. -/
namespace Sys2Proof.Machine

/-- Reasons for the outcome `fault`: none. The core has no traps (60_exceptions.md R205), and "No condition in this core
aborts the process"; what the spec calls a fault is a sticky bit after which the node goes on (R204), which is a next
state here (`raiseFault`). Safe: nothing is ever stopped under this name. -/
inductive Fault where
  deriving DecidableEq, Repr

/-- Reasons for the outcome `refused`. -/
inductive Refusal where
  /-- An operation without a meaning, by its mnemonic. Raised only by `exec`'s own arms; none is left. Safe. -/
  | notModelled (mnemonic : String)
  /-- A reserved key was handed to the core: "A model that is handed one must refuse it" (30_encoding.md R83). Raised by
  `runKey`. Safe: no input spells a key. -/
  | reservedKey (key : Key) (why : ReservedKey)
  /-- ENCODE of an ACK with a payload: "A model ... must refuse" (40_codec.md R100). Raised by `encodeFrame`. Safe. -/
  | encodeAckPayload
  /-- ENCODE of a payload over MAX_MSG: "A model ... must refuse" (40_codec.md R100). Raised by `encodeFrame`. Safe. -/
  | encodeOversize
  /-- H_TIMEOUT with `snd_wait` = 0: "A model must refuse this rule" (42_host.md R143). Raised by `execHTimeout`. Safe. -/
  | timeoutWhileIdle
  /-- R_TIMEOUT with `buf_full` = 0: "A model must refuse this rule" (43_router.md R162). Raised by `execRTimeout`.
  Safe. -/
  | timeoutWhileEmpty
  /-- A read beyond `buf_len`: "not admitted and a model should refuse it" (20_memory.md R54). Raised by `readBuffer`.
  Safe: no rule makes such a read. -/
  | bufferReadBeyondLength
  deriving DecidableEq, Repr

/-- The state record `S` of one node (10_state.md R20), and after it the model's own fields. -/
structure State where
  /-- `S.booted` (R22). -/
  booted          : Bool
  /-- `S.role` (R22). -/
  role            : Role
  /-- `S.orig` (R22). -/
  orig            : Bool
  /-- `S.node_id` (R22); no rule reads it. -/
  nodeId          : BitVec 16
  /-- `S.ackexpected` (R23). -/
  ackexpected     : SeqBit
  /-- `S.nextframetosend` (R24). -/
  nextframetosend : SeqBit
  /-- `S.frameexpected` (R25). -/
  frameexpected   : SeqBit
  /-- `S.snd_wait` (R26): false IDLE, true WAIT_ACK. -/
  sndWait         : Bool
  /-- `S.intake_en` (R27). -/
  intakeEn        : Bool
  /-- `S.buf_full` (R28). -/
  bufFull         : Bool
  /-- `S.buf_seq` (R29). -/
  bufSeq          : SeqBit
  /-- `S.buf_len` (R30). -/
  bufLen          : BitVec 16
  /-- `S.buf_data` (R30). -/
  bufData         : Bytes
  /-- `S.tmr_active` (R31). -/
  tmrActive       : Bool
  /-- `S.tmr_gen` (R32). -/
  tmrGen          : Gen
  /-- `S.fault` (R33). -/
  fault           : BitVec 8
  /-- `S.status` (R34). -/
  status          : BitVec 8
  /-- The model's own: the parameters of 00_scope.md R10. No step writes them (log entry 1). -/
  config          : Config
  /-- The model's own: the events the scheduler will deliver, the next one first (60_exceptions.md R208, R209; log
  entry 2). -/
  inbox           : List Event
  /-- The model's own: an operation handed to the core by its key (30_encoding.md R83; log entry 3). -/
  keyPort         : Option KeyWord
  /-- The model's own: the ordered action list of the latest transition (00_scope.md R3; log entry 4). -/
  actions         : List Action
  /-- The model's own: what a unit operation run by its key returned (log entry 5). -/
  result          : Option UnitResult
  deriving DecidableEq, Repr

/-- Power-on: "all zero, with `S.booted` = 0" (70_reset_and_hazards.md R230, 10_state.md R39). Nothing is pending. The
OPEN parameters are DESIGN CHOICE (log entry 1). -/
def State.reset : State where
  booted          := false
  role            := .host
  orig            := false
  nodeId          := 0#16
  ackexpected     := 0#1
  nextframetosend := 0#1
  frameexpected   := 0#1
  sndWait         := false
  intakeEn        := false
  bufFull         := false
  bufSeq          := 0#1
  bufLen          := 0#16
  bufData         := []
  tmrActive       := false
  tmrGen          := 0#32
  fault           := 0x00#8
  status          := 0x00#8
  config          := Config.reference
  inbox           := []
  keyPort         := none
  actions         := []
  result          := none

end Sys2Proof.Machine
end

