-- ==== Sys2Proof/Machine/Flags.lean ====
section
/-! DEFINITION. The outcome codes and the fault bits (60_exceptions.md R200, R204). The core has no arithmetic flags
(10_state.md R36). -/
namespace Sys2Proof.Machine

/-- The status codes (60_exceptions.md R200). -/
inductive Status where
  | ok
  | dropShort
  | dropChecksum
  | dropLength
  | dropFormat
  | okReack
  | ignSeq
  | ignBusy
  | ignAck
  | ignIdleAck
  | ignStaleTimer
  | faultNotBooted
  | faultIntake
  | faultRole
  | faultOversize
  deriving DecidableEq, Repr

/-- The code of a status (60_exceptions.md R200). -/
def Status.code : Status → BitVec 8
  | .ok             => 0x00#8
  | .dropShort      => 0x01#8
  | .dropChecksum   => 0x02#8
  | .dropLength     => 0x03#8
  | .dropFormat     => 0x04#8
  | .okReack        => 0x08#8
  | .ignSeq         => 0x10#8
  | .ignBusy        => 0x11#8
  | .ignAck         => 0x12#8
  | .ignIdleAck     => 0x13#8
  | .ignStaleTimer  => 0x14#8
  | .faultNotBooted => 0x20#8
  | .faultIntake    => 0x21#8
  | .faultRole      => 0x22#8
  | .faultOversize  => 0x23#8

/-- Every status, in the order of 60_exceptions.md R200. -/
def Status.all : List Status :=
  [.ok, .dropShort, .dropChecksum, .dropLength, .dropFormat, .okReack, .ignSeq, .ignBusy, .ignAck, .ignIdleAck,
   .ignStaleTimer, .faultNotBooted, .faultIntake, .faultRole, .faultOversize]

/-- The outcome classes (60_exceptions.md R201). -/
inductive OutcomeClass where
  | accept
  | discard
  | ignore
  | fault
  deriving DecidableEq, Repr

/-- The class column of 60_exceptions.md R200. -/
def Status.outcomeClass : Status → OutcomeClass
  | .ok | .okReack                                            => .accept
  | .dropShort | .dropChecksum | .dropLength | .dropFormat    => .discard
  | .ignSeq | .ignBusy | .ignAck | .ignIdleAck | .ignStaleTimer => .ignore
  | .faultNotBooted | .faultIntake | .faultRole | .faultOversize => .fault

/-- The status a discarded frame is recorded with (60_exceptions.md R200). -/
def Status.ofDiscard : Discard → Status
  | .short    => .dropShort
  | .checksum => .dropChecksum
  | .length   => .dropLength
  | .format   => .dropFormat

/-- The environment's breaches of contract (10_state.md R33). -/
inductive FaultBit where
  | notBooted
  | intake
  | role
  | oversize
  deriving DecidableEq, Repr

/-- The bit of `S.fault` (10_state.md R33, 60_exceptions.md R204). -/
def FaultBit.mask : FaultBit → BitVec 8
  | .notBooted => 0x01#8
  | .intake    => 0x02#8
  | .role      => 0x04#8
  | .oversize  => 0x08#8

/-- The matching status (60_exceptions.md R204). -/
def FaultBit.status : FaultBit → Status
  | .notBooted => .faultNotBooted
  | .intake    => .faultIntake
  | .role      => .faultRole
  | .oversize  => .faultOversize

end Sys2Proof.Machine
end

