-- ==== Sys2Proof/WellFormed.lean ====
section
/-! DEFINITION. Which operands the callers of each operation pass: the operand lines of 40_codec.md to
44_dispatcher.md, as a check. -/
namespace Sys2Proof

/-- A payload of a legal DATA frame: at most MAX_MSG bytes (30_encoding.md R73). -/
def payloadFits (maxMsg : Nat) (p : Bytes) : Bool := p.length ≤ maxMsg

/-- ENCODE's operands: "a byte string with |payload| ≤ MAX_MSG, and empty for ACK" (40_codec.md R100). -/
def encodeOperandsLegal (maxMsg : Nat) (kind : Kind) (p : Bytes) : Bool :=
  match kind with
  | .data => payloadFits maxMsg p
  | .ack  => p.isEmpty

/-- The size of a DATA frame: "6 + LEN bytes, from 6 to 6 + MAX_MSG" (30_encoding.md R75). Only DATA frames are timed
(41_timer.md R126). -/
def dataSizeLegal (cf : Config) (size : Nat) : Bool :=
  decide (cf.hdrSize ≤ size) && decide (size ≤ cf.hdrSize + cf.maxMsg)

/-- The operation is one the core's own rules can call with these operands. A payload of H_DATA or R_DATA comes from a
validated frame (40_codec.md R102); one of H_SEND has passed admission (44_dispatcher.md R183). -/
def Instr.wellFormed (cf : Config) : Instr → Bool
  | .boot _        => true
  | .hData _ p     => payloadFits cf.maxMsg p
  | .hTimeout      => true
  | .hSend p       => payloadFits cf.maxMsg p
  | .diag          => true
  | .hAck _        => true
  | .rData _ p     => payloadFits cf.maxMsg p
  | .rTimeout      => true
  | .rPayload _    => true
  | .rAck _        => true
  | .encode k _ p  => encodeOperandsLegal cf.maxMsg k p
  | .validate _    => true
  | .timerStart _ n => dataSizeLegal cf n
  | .timerCancel   => true
  | .timerExpire _ => true

end Sys2Proof
end

