-- ==== Sys2Proof/Machine/Ops.lean ====
section
/-! DEFINITION. The shared operations of the rules: the pseudocode primitives of 00_scope.md R14, `raise Fault` and
`drop` (60_exceptions.md R202, R204), the frame builder, and the timer arbiter (41_timer.md). -/
namespace Sys2Proof.Machine

/-- What a step of this machine answers. -/
abbrev Outcome := Host.Outcome State Fault Refusal

/-! ## Primitives -/

/-- `emit A` appends to the transition's output list (00_scope.md R14). -/
def emit (a : Action) (s : State) : State := { s with actions := s.actions ++ [a] }

/-- `S.status <- c` (60_exceptions.md R200). -/
def setStatus (c : Status) (s : State) : State := { s with status := c.code }

/-- `drop(c)` "writes `S.status <- c` and nothing else" (60_exceptions.md R202). `s` is the state at the start of the
transition: no rule writes before a drop point. -/
def drop (c : Status) (s : State) : State := { s with status := c.code }

/-- `raise Fault(f)`: the one way an event reports a breach of the environment's contract. It sets the sticky bit and the
status, "emits no action and changes no other field" (60_exceptions.md R204). There is no trap entry and no return
(R205). -/
def raiseFault (f : FaultBit) (s : State) : State := { s with fault := s.fault ||| f.mask, status := f.status.code }

/-- `MemWrite(buf, 0, |p|, p)`: "A buffer write replaces the whole slot in one step" (20_memory.md R54). -/
def writeBuffer (p : Bytes) (s : State) : State := { s with bufLen := BitVec.ofNat 16 p.length, bufData := p }

/-- `MemRead(buf, i, n)`; a read beyond `S.buf_len` is refused (20_memory.md R54). -/
def readBuffer (i n : Nat) (s : State) : Except Refusal Bytes :=
  if i + n ≤ s.bufLen.toNat then .ok ((s.bufData.drop i).take n) else .error .bufferReadBeyondLength

/-- Runs the rest of a rule on the value of a unit operation, or refuses as the unit operation does. -/
def withUnit {α : Type} (r : Except Refusal α) (k : α → State) : Outcome :=
  match r with
  | .ok a    => .next (k a)
  | .error e => .refused e

/-! ## Frames -/

/-- ENCODE with the refusals of 40_codec.md R100. -/
def encodeFrame (cf : Config) (kind : Kind) (seq : SeqBit) (p : Bytes) : Except Refusal Bytes :=
  if encodeOperandsLegal cf.maxMsg kind p then .ok (frameBytes cf kind seq p)
  else match kind with
    | .ack  => .error .encodeAckPayload
    | .data => .error .encodeOversize

/-- `ENCODE(ACK, s, empty)`, which every acknowledgement sends (42_host.md R144, 43_router.md R160). -/
def ackFrame (cf : Config) (seq : SeqBit) : Bytes := frameBytes cf .ack seq []

/-- `HostFrame(S)`, the host's outstanding DATA frame (42_host.md R141). -/
def hostFrame (s : State) : Except Refusal Bytes := do
  encodeFrame s.config .data s.nextframetosend (← readBuffer 0 s.bufLen.toNat s)

/-- The buffered DATA frame a router retransmits (43_router.md R162). -/
def routerFrame (s : State) : Except Refusal Bytes := do
  encodeFrame s.config .data s.bufSeq (← readBuffer 0 s.bufLen.toNat s)

/-! ## The timer arbiter -/

/-- The parameters of a link (00_scope.md R10). -/
def linkParams (c : Config) (l : Link) : LinkParams :=
  match c.links.find? (·.1 == l) with
  | some entry => entry.2
  | none       => c.otherLinks

/-- `TxTime_us(l, size)` (41_timer.md R120). -/
def txTimeUs (c : Config) (l : Link) (size : Nat) : Nat := size * 8 * 1000000 / (linkParams c l).bandwidthBps

/-- `Timeout_us(l, size)` (41_timer.md R120). -/
def timeoutUs (c : Config) (l : Link) (size : Nat) : Nat :=
  c.timeoutFactor * (txTimeUs c l size + (linkParams c l).propDelayUs)

/-- The tag of the `n`-th timer started since BOOT: "counts modulo 2^GEN_W" (41_timer.md R124). -/
def tagOf (c : Config) (n : Nat) : Gen := BitVec.ofNat 32 (n % 2 ^ c.genW)

/-- `(S.tmr_gen + 1) mod 2^GEN_W` (41_timer.md R121). -/
def nextGen (c : Config) (g : Gen) : Gen := tagOf c (g.toNat + 1)

/-- The TCANCEL of the running timer, if one runs (41_timer.md R121, R122; 44_dispatcher.md R180). -/
def cancelActions (s : State) : List Action := if s.tmrActive then [.tcancel s.tmrGen] else []

/-- TIMER_START(l, size) (41_timer.md R121). -/
def timerStart (l : Link) (size : Nat) (s : State) : State :=
  { s with
    tmrGen    := nextGen s.config s.tmrGen
    tmrActive := true
    actions   := s.actions ++ cancelActions s ++ [.tstart (nextGen s.config s.tmrGen) (timeoutUs s.config l size)] }

/-- TIMER_CANCEL (41_timer.md R122): with no active timer it emits nothing and changes nothing. -/
def timerCancel (s : State) : State := { s with tmrActive := false, actions := s.actions ++ cancelActions s }

/-- TIMER_EXPIRE's condition for ACCEPT (41_timer.md R123). -/
def expiryAccepted (g : Gen) (s : State) : Bool := s.tmrActive && g == s.tmrGen

/-- "The timer has fired": what ACCEPT writes (41_timer.md R123). -/
def timerFired (s : State) : State := { s with tmrActive := false }

end Sys2Proof.Machine
end

