-- ==== Sys2Proof/Machine/Codec.lean ====
section
/-! DEFINITION. The codec unit's operations (40_codec.md). The codec has no state: what it returns stands in `result`
when the operation was handed to the core by its key (log entry 5). -/
namespace Sys2Proof.Machine

/-- ENCODE (40_codec.md R100): "State written: none. Status: none". -/
def execEncode (kind : Kind) (seq : SeqBit) (p : Bytes) (s : State) : Outcome :=
  withUnit (encodeFrame s.config kind seq p) fun frame => { s with result := some (.encoded frame) }

/-- VALIDATE (40_codec.md R102): "State written: none by VALIDATE itself". -/
def execValidate (bytes : Bytes) (s : State) : Outcome :=
  .next { s with result := some (.validated (validateFrame s.config bytes)) }

end Sys2Proof.Machine
end

