-- ==== Sys2Proof/Machine/HostEngine.lean ====
section
/-! DEFINITION. The host engine (42_host.md): the sender sub-machine and the receiver sub-machine. -/
namespace Sys2Proof.Machine

/-- The admission checks of PAYLOAD(p), the first that fails gives its fault (44_dispatcher.md R183). -/
def admission (p : Bytes) (s : State) : Option FaultBit :=
  if s.role = .router then some .role
  else if s.intakeEn = false then some .intake
  else if s.config.maxMsg < p.length then some .oversize
  else none

/-- Sends a DATA frame and times it, as every DATA a node sends is (41_timer.md R125, R126). -/
def sendTimed (l : Link) (frame : Bytes) (s : State) : State := timerStart l frame.length (emit (.send l frame) s)

/-- H_SEND (42_host.md R140): IDLE to WAIT_ACK. Where its precondition fails, "the event faults and this rule does not
run" (log entry 8). -/
def execHSend (p : Bytes) (s : State) : Outcome :=
  match admission p s with
  | some f => .next (raiseFault f s)
  | none   =>
    let s1 := writeBuffer p s
    withUnit (hostFrame s1) fun frame =>
      let s2 := sendTimed s.config.hostLink frame s1
      let s3 := { s2 with sndWait := true, intakeEn := false }
      setStatus .ok (emit (.intake false) s3)

/-- H_ACK (42_host.md R142): a matching ACK in WAIT_ACK returns the sender to IDLE. -/
def execHAck (seq : SeqBit) (s : State) : Outcome :=
  if s.sndWait = false then .next (drop .ignIdleAck s)
  else if seq ≠ s.ackexpected then .next (drop .ignAck s)
  else
    let s1 := timerCancel s
    let s2 := { s1 with
      ackexpected     := flipBit s1.ackexpected
      nextframetosend := flipBit s1.nextframetosend
      sndWait         := false
      intakeEn        := true }
    .next (setStatus .ok (emit (.intake true) s2))

/-- H_TIMEOUT (42_host.md R143): the same frame again, and the timer restarted. -/
def execHTimeout (s : State) : Outcome :=
  if s.sndWait = false then .refused .timeoutWhileIdle
  else withUnit (hostFrame s) fun frame => setStatus .ok (sendTimed s.config.hostLink frame s)

/-- H_DATA (42_host.md R144): the receiver delivers and acknowledges the expected frame. -/
def execHData (seq : SeqBit) (p : Bytes) (s : State) : Outcome :=
  if seq = s.frameexpected then
    let s1 := emit (.deliver p) s
    let s2 := { s1 with frameexpected := flipBit s1.frameexpected }
    .next (setStatus .ok (emit (.send s.config.hostLink (ackFrame s.config seq)) s2))
  else if s.config.reackDuplicates then
    .next (setStatus .okReack (emit (.send s.config.hostLink (ackFrame s.config seq)) s))
  else .next (drop .ignSeq s)

end Sys2Proof.Machine
end

