-- ==== Sys2Proof/Machine/Node.lean ====
section
/-! DEFINITION. The dispatcher's own operations: BOOT and DIAG (44_dispatcher.md R180, R184). -/
namespace Sys2Proof.Machine

/-- `S.orig` after BOOT: a router ignores `cfg.orig` (44_dispatcher.md R180). -/
def originator (cfg : BootCfg) : Bool :=
  match cfg.role with
  | .host   => cfg.orig
  | .router => false

/-- BOOT announces the intake of a host, and nothing at a router (44_dispatcher.md R180). -/
def bootAnnouncement (cfg : BootCfg) : List Action :=
  match cfg.role with
  | .host   => [.intake cfg.orig]
  | .router => []

/-- BOOT (44_dispatcher.md R180): every field except `S.fault` takes its "after BOOT" value (10_state.md R39). The model's
own fields are the interface's, not the record's. -/
def execBoot (cfg : BootCfg) (s : State) : Outcome :=
  .next { s with
    booted          := true
    role            := cfg.role
    orig            := originator cfg
    nodeId          := cfg.nodeId
    ackexpected     := 0#1
    nextframetosend := 0#1
    frameexpected   := 0#1
    sndWait         := false
    intakeEn        := originator cfg
    bufFull         := false
    bufSeq          := 0#1
    bufLen          := 0#16
    bufData         := []
    tmrActive       := false
    tmrGen          := 0#32
    status          := Status.ok.code
    actions         := s.actions ++ cancelActions s ++ bootAnnouncement cfg }

/-- The character of a sequence bit (44_dispatcher.md R185). -/
def bitChar (b : SeqBit) : Char := if b = 1#1 then '1' else '0'

/-- `DiagText(S)` (44_dispatcher.md R185). -/
def diagText (s : State) : Text :=
  ['a', 'c', 'k', 'e', 'x', 'p', 'e', 'c', 't', 'e', 'd', '=', bitChar s.ackexpected] ++
  [' ', 'n', 'e', 'x', 't', 'f', 'r', 'a', 'm', 'e', 't', 'o', 's', 'e', 'n', 'd', '=', bitChar s.nextframetosend] ++
  [' ', 'f', 'r', 'a', 'm', 'e', 'e', 'x', 'p', 'e', 'c', 't', 'e', 'd', '=', bitChar s.frameexpected]

/-- DIAG (44_dispatcher.md R184): read-only but for `S.status`. -/
def execDiag (s : State) : Outcome := .next (setStatus .ok (emit (.diagtext (diagText s)) s))

end Sys2Proof.Machine
end

