-- ==== Sys2Proof/Machine/Router.lean ====
section
/-! DEFINITION. The router relay engine (43_router.md): the left window takes DATA, the right window takes ACK. -/
namespace Sys2Proof.Machine

/-- R_DATA (43_router.md R160). The buffer-full check comes first. -/
def execRData (seq : SeqBit) (p : Bytes) (s : State) : Outcome :=
  if s.bufFull then .next (drop .ignBusy s)
  else if seq ≠ s.frameexpected then
    if s.config.reackDuplicates then .next (setStatus .okReack (emit (.send s.config.routerUpLink (ackFrame s.config seq)) s))
    else .next (drop .ignSeq s)
  else
    let s1 := { s with frameexpected := flipBit s.frameexpected }
    let s2 := emit (.send s.config.routerUpLink (ackFrame s.config seq)) s1
    withUnit (encodeFrame s.config .data seq p) fun frame =>
      let s3 := sendTimed s.config.routerDownLink frame s2
      setStatus .ok { writeBuffer p s3 with bufFull := true, bufSeq := seq }

/-- R_ACK (43_router.md R161): no buffer condition; a matching ACK at an empty router flips the bit too. -/
def execRAck (seq : SeqBit) (s : State) : Outcome :=
  if seq ≠ s.ackexpected then .next (drop .ignAck s)
  else .next (setStatus .ok (timerCancel { s with ackexpected := flipBit s.ackexpected, bufFull := false }))

/-- R_TIMEOUT (43_router.md R162): the buffered frame again, and the timer restarted. -/
def execRTimeout (s : State) : Outcome :=
  if s.bufFull = false then .refused .timeoutWhileEmpty
  else withUnit (routerFrame s) fun frame => setStatus .ok (sendTimed s.config.routerDownLink frame s)

/-- R_PAYLOAD (43_router.md R163): a router has no application. -/
def execRPayload (_p : Bytes) (s : State) : Outcome := .next (raiseFault .role s)

end Sys2Proof.Machine
end

