-- ==== Sys2Proof/Machine/Timer.lean ====
section
/-! DEFINITION. The timer arbiter's operations (41_timer.md). -/
namespace Sys2Proof.Machine

/-- TIMER_START (41_timer.md R121). -/
def execTimerStart (l : Link) (size : Nat) (s : State) : Outcome := .next (timerStart l size s)

/-- TIMER_CANCEL (41_timer.md R122). -/
def execTimerCancel (s : State) : Outcome := .next (timerCancel s)

/-- TIMER_EXPIRE (41_timer.md R123): ACCEPT stops the timer, STALE is `drop(IGN_STALE_TIMER)` (log entry 6). -/
def execTimerExpire (g : Gen) (s : State) : Outcome :=
  if expiryAccepted g s then .next { timerFired s with result := some (.expiry true) }
  else .next { drop .ignStaleTimer s with result := some (.expiry false) }

end Sys2Proof.Machine
end

