-- ==== Sys2Proof/Machine/Dispatch.lean ====
section
/-! DEFINITION. One arm per operation of the opcode table. -/
namespace Sys2Proof.Machine

def exec (i : Instr) (s : State) : Host.Outcome State Fault Refusal :=
  match i with
  | .boot cfg => Sys2Proof.Machine.execBoot cfg s
  | .hData seq payload => Sys2Proof.Machine.execHData seq payload s
  | .hTimeout => Sys2Proof.Machine.execHTimeout s
  | .hSend payload => Sys2Proof.Machine.execHSend payload s
  | .diag => Sys2Proof.Machine.execDiag s
  | .hAck seq => Sys2Proof.Machine.execHAck seq s
  | .rData seq payload => Sys2Proof.Machine.execRData seq payload s
  | .rTimeout => Sys2Proof.Machine.execRTimeout s
  | .rPayload payload => Sys2Proof.Machine.execRPayload payload s
  | .rAck seq => Sys2Proof.Machine.execRAck seq s
  | .encode kind seq payload => Sys2Proof.Machine.execEncode kind seq payload s
  | .validate bytes => Sys2Proof.Machine.execValidate bytes s
  | .timerStart link size => Sys2Proof.Machine.execTimerStart link size s
  | .timerCancel => Sys2Proof.Machine.execTimerCancel s
  | .timerExpire gen => Sys2Proof.Machine.execTimerExpire gen s

end Sys2Proof.Machine
end

