-- ==== Sys2Proof/Machine/Operands.lean ====
section
/-! DEFINITION. The operand forms: which operands each event gives the operation it selects, and the key the dispatcher
forms for it (30_encoding.md R79, R80; 44_dispatcher.md R181). -/
namespace Sys2Proof.Machine

/-- BOOT(cfg): "For BOOT and DIAG, ROLE and KIND are 0" (30_encoding.md R80). -/
def bootWord (cfg : BootCfg) : KeyWord := { key := eventKey 0#1 0#1 0b000#3, operands := { cfg := cfg } }

/-- A legal FRAME: DK = {000, S.role, (kind = ACK), 001}, run with (s, p) (44_dispatcher.md R181). -/
def frameWord (role : Role) (kind : Kind) (seq : SeqBit) (p : Bytes) : KeyWord :=
  { key := eventKey (roleBit role) (kindBit kind) 0b001#3, operands := { seq := seq, bytes := p } }

/-- An accepted TIMER: DK = {000, S.role, 0, 010} (44_dispatcher.md R181). -/
def timerWord (role : Role) : KeyWord := { key := eventKey (roleBit role) 0#1 0b010#3 }

/-- PAYLOAD(p): DK 0x03 or 0x13 (44_dispatcher.md R181). -/
def payloadWord (role : Role) (p : Bytes) : KeyWord :=
  { key := eventKey (roleBit role) 0#1 0b011#3, operands := { bytes := p } }

/-- DIAG (30_encoding.md R80). -/
def diagWord : KeyWord := { key := eventKey 0#1 0#1 0b100#3 }

end Sys2Proof.Machine
end

