-- ==== Sys2Proof/Machine/Dispatcher.lean ====
section
/-! DEFINITION. The node role dispatcher (44_dispatcher.md R181): the checks before dispatch, the key formed, the
operation run. -/
namespace Sys2Proof.Machine

/-- Runs the operation a key selects; a reserved key is refused (30_encoding.md R83). -/
def runKey (w : KeyWord) (s : State) : Outcome :=
  match decode w with
  | .ok i      => exec i s
  | .error why => .refused (.reservedKey w.key why)

/-- A FRAME at a booted node: validated first, then run by role and kind; the arrival link takes no part
(44_dispatcher.md R181, R182). -/
def dispatchFrame (bytes : Bytes) (s : State) : Outcome :=
  match validateFrame s.config bytes with
  | .discard cause    => .next (drop (Status.ofDiscard cause) s)
  | .valid kind seq p => runKey (frameWord s.role kind seq p) s

/-- A TIMER at a booted node: filtered first, then run by role (44_dispatcher.md R181). -/
def dispatchTimer (g : Gen) (s : State) : Outcome :=
  if expiryAccepted g s then runKey (timerWord s.role) (timerFired s) else .next (drop .ignStaleTimer s)

/-- A PAYLOAD at a booted node: "admission checks of rule R183, then run H_SEND (DK 0x03) or R_PAYLOAD (DK 0x13)"
(44_dispatcher.md R181). A payload that a host does not admit forms no key (30_encoding.md R80); at a router the check
that fails is R_PAYLOAD's own (R183). -/
def dispatchPayload (p : Bytes) (s : State) : Outcome :=
  match s.role with
  | .router => runKey (payloadWord .router p) s
  | .host   =>
    match admission p s with
    | some f => .next (raiseFault f s)
    | none   => runKey (payloadWord .host p) s

/-- One input event (44_dispatcher.md R181); BOOT "is accepted in any state, including before the first BOOT" (R180). -/
def dispatchEvent (e : Event) (s : State) : Outcome :=
  match e with
  | .boot cfg      => runKey (bootWord cfg) s
  | .frame _ bytes => if s.booted then dispatchFrame bytes s else .next (raiseFault .notBooted s)
  | .timer g       => if s.booted then dispatchTimer g s else .next (raiseFault .notBooted s)
  | .payload p     => if s.booted then dispatchPayload p s else .next (raiseFault .notBooted s)
  | .diag          => if s.booted then runKey diagWord s else .next (raiseFault .notBooted s)

/-- A transition begins: the environment has performed the actions of the one before (20_memory.md R61), and the output
list is empty (00_scope.md R14). -/
def State.beginTransition (s : State) : State := { s with actions := [], result := none }

/-- The state in which an event taken from the inbox is dispatched. -/
def State.takeEvent (s : State) (rest : List Event) : State := { s.beginTransition with inbox := rest }

/-- The state in which an operation handed by its key runs. -/
def State.takeKey (s : State) : State := { s.beginTransition with keyPort := none }

end Sys2Proof.Machine
end

