-- ==== Sys2Proof/Machine/Step.lean ====
section
/-! DEFINITION. One step is one whole transition (20_memory.md R55): the operation handed by its key, else the next event
of the inbox, else nothing. -/
namespace Sys2Proof.Machine

/-- One step. With nothing handed and no event delivered the node "simply holds its state" (60_exceptions.md R216; log
entry 7). -/
def step (s : State) : Host.Outcome State Fault Refusal :=
  match s.keyPort with
  | some w => runKey w s.takeKey
  | none =>
    match s.inbox with
    | []        => .next s
    | e :: rest => dispatchEvent e (s.takeEvent rest)

/-- The state whose next step runs the key word of `nbits` bits of `w`, its operands zero: the word is handed to the key
port (log entry 3). -/
def State.withFetchWord (s : State) (nbits w : Nat) : State := { s with keyPort := some (tableWord nbits w) }

end Sys2Proof.Machine
end

