-- ==== Sys2Proof/Machine/Chain.lean ====
section
/-! DEFINITION. The environment of the cores: a linear chain of nodes with its links, timer facilities and applications,
and exactly the moves of the environment contract (44_dispatcher.md R190). A duty the environment would break has no
move. -/
namespace Sys2Proof.Machine

/-- An expiry the timer facility holds (10_state.md R37): its tag, how many timers the node had started before it, and
whether it was cancelled. A cancelled one may still be "already on its way" (44_dispatcher.md R190). -/
structure Expiry where
  gen       : Gen
  startNo   : Nat
  cancelled : Bool
  deriving DecidableEq, Repr

/-- A frame handed to a link: the node at the link's other end, the link's number there, the bytes (44_dispatcher.md
R190). -/
structure Transit where
  dst   : Nat
  link  : Link
  bytes : Bytes
  deriving DecidableEq, Repr

/-- One node with its own part of the environment: its deployment, its timer facility and its application. Nodes share no
state (60_exceptions.md R214). -/
structure Node where
  /-- The configuration of the node's latest BOOT (00_scope.md R11); none before the first. -/
  deployed  : Option BootCfg
  core      : State
  /-- The expiries the facility holds, oldest first. -/
  expiries  : List Expiry
  /-- How many timers this incarnation has started. -/
  starts    : Nat
  /-- The last INTAKE action was INTAKE(1). -/
  intakeOn  : Bool
  /-- The payloads handed to the application, oldest first. -/
  delivered : List Bytes
  /-- The diagnostic texts returned, oldest first. -/
  texts     : List Text
  deriving DecidableEq, Repr

/-- A chain (60_exceptions.md R214): its nodes from left to right, and every frame ever sent, oldest first. -/
structure Chain where
  nodes : List Node
  wire  : List Transit
  deriving DecidableEq, Repr

/-! ## Wiring -/

/-- The parameters of the nodes' cores, from left to right. -/
def Chain.configs (c : Chain) : List Config := c.nodes.map (·.core.config)

/-- The number node `i` gives its link to the right: a host has one link, a router's is its downstream link
(70_reset_and_hazards.md R233). -/
def rightLink (i : Nat) (cf : Config) : Link := if i = 0 then cf.hostLink else cf.routerDownLink

/-- The number node `i` of `n` gives its link to the left (70_reset_and_hazards.md R233). -/
def leftLink (n i : Nat) (cf : Config) : Link := if i + 1 = n then cf.hostLink else cf.routerUpLink

/-- The neighbour to the right of node `i`, with the number it gives the link. -/
def rightPeer (cfs : List Config) (i : Nat) : Option (Nat × Link) :=
  cfs[i + 1]?.map fun cf => (i + 1, leftLink cfs.length (i + 1) cf)

/-- The neighbour to the left of node `i`, with the number it gives the link. -/
def leftPeer (cfs : List Config) (i : Nat) : Option (Nat × Link) :=
  if i = 0 then none else cfs[i - 1]?.map fun cf => (i - 1, rightLink (i - 1) cf)

/-- The other end of link `l` of node `i`: the neighbour and its link number. "Host A link 1 goes to router 1 link 1,
router k link 2 goes to router k+1 link 1, and the last router's link 2 goes to host B link 1" (70_reset_and_hazards.md
R233). -/
def linkPeer (cfs : List Config) (i : Nat) (l : Link) : Option (Nat × Link) :=
  cfs[i]?.bind fun cf =>
    if i + 1 < cfs.length ∧ l = rightLink i cf then rightPeer cfs i
    else if l = leftLink cfs.length i cf then leftPeer cfs i
    else none

/-! ## Actions and events -/

/-- What one action does to the node's own part of the environment (44_dispatcher.md R186). -/
def Node.perform (a : Action) (d : Node) : Node :=
  match a with
  | .send _ _    => d
  | .tstart g _  => { d with expiries := d.expiries ++ [{ gen := g, startNo := d.starts, cancelled := false }],
                             starts := d.starts + 1 }
  | .tcancel g   => { d with expiries := d.expiries.map fun x => if x.gen = g then { x with cancelled := true } else x }
  | .deliver p   => { d with delivered := d.delivered ++ [p] }
  | .intake on   => { d with intakeOn := on }
  | .diagtext t  => { d with texts := d.texts ++ [t] }

/-- The frames one action hands to the links. A frame sent on a link number with nothing wired to it goes nowhere (log
entry 20). -/
def sentBy (cfs : List Config) (i : Nat) : Action → List Transit
  | .send l bytes =>
    match linkPeer cfs i l with
    | some (dst, link) => [{ dst := dst, link := link, bytes := bytes }]
    | none             => []
  | _ => []

/-- Performs a transition's actions in list order (20_memory.md R61, 70_reset_and_hazards.md R240). -/
def Chain.perform (i : Nat) (as : List Action) (c : Chain) : Chain :=
  { nodes := c.nodes.modify i fun d => as.foldl (fun d a => d.perform a) d
    wire  := c.wire ++ as.flatMap (sentBy c.configs i) }

/-- Delivers one event to a core and lets it run to completion (20_memory.md R55). -/
def State.react (e : Event) (s : State) : Outcome := step { s with inbox := [e], keyPort := none }

/-- Delivers one event to node `i`, and performs all its actions before anything else happens (20_memory.md R61). -/
def Chain.deliver (i : Nat) (e : Event) (c : Chain) : Option Chain :=
  match c.nodes[i]? with
  | none   => none
  | some d =>
    match d.core.react e with
    | .next t => some (({ c with nodes := c.nodes.set i { d with core := t } } : Chain).perform i t.actions)
    | _       => none

/-! ## The deployment's duty -/

/-- The role of place `i` in a chain of `n` nodes: "a linear chain, host at each end, routers between" (44_dispatcher.md
R190). -/
def placeRole (n i : Nat) : Role := if i = 0 ∨ i + 1 = n then .host else .router

/-- Every node that was booted has the role of its place. -/
def placesFit (ds : List (Option BootCfg)) : Bool :=
  ds.zipIdx.all fun d => d.1.all fun cfg => cfg.role == placeRole ds.length d.2

/-- How many nodes were booted as the Originator. -/
def originators (ds : List (Option BootCfg)) : Nat := ds.countP (·.any originator)

/-- What the deployment may have booted so far (44_dispatcher.md R190; log entry 15): every role fits its place; no two
nodes are Originators; and since "each router's link 1" is "upstream" and is its left link, with routers between only the
left host is. -/
def deploymentAdmits (ds : List (Option BootCfg)) : Bool :=
  decide (2 ≤ ds.length) && placesFit ds && decide (originators ds ≤ 1) &&
    (decide (ds.length = 2) || decide (originators ds.tail = 0))

/-- The deployment's duty (44_dispatcher.md R190): "a linear chain, host at each end, routers between; exactly one
Originator; each router's link 1 upstream and link 2 downstream". -/
def legalDeployment (cs : List BootCfg) : Bool :=
  deploymentAdmits (cs.map some) && decide (originators (cs.map some) = 1)

/-- The configurations of the nodes' latest BOOTs. -/
def Chain.deployment (c : Chain) : List (Option BootCfg) := c.nodes.map (·.deployed)

/-- "Deliver BOOT to every node, with exactly one host as Originator. Only then deliver run-time events"
(70_reset_and_hazards.md R233). -/
def Chain.ready (c : Chain) : Bool :=
  c.deployment.all (·.isSome) && legalDeployment (c.deployment.filterMap id)

/-! ## Moves -/

/-- The environment's moves (44_dispatcher.md R190). -/
inductive Move where
  /-- The deployment boots a node, the first time or again, with any configuration of its duty (44_dispatcher.md R187). -/
  | boot (node : Nat) (cfg : BootCfg)
  /-- A link delivers a frame that was sent on it. -/
  | frame (sent : Nat)
  /-- A link delivers a corrupted copy of a frame that was sent on it. -/
  | corrupted (sent : Nat) (bytes : Bytes)
  /-- A timer facility delivers an expiry it holds. -/
  | expiry (node : Nat) (held : Nat)
  /-- The application offers a payload. -/
  | payload (node : Nat) (p : Bytes)
  /-- The diagnostic query. -/
  | diag (node : Nat)
  deriving DecidableEq, Repr

/-- Delivers a run-time event. The scheduler's duty is "BOOT before any other event" (44_dispatcher.md R190), at every node
of the chain (70_reset_and_hazards.md R233). -/
def Chain.deliverReady (i : Nat) (e : Event) (c : Chain) : Option Chain :=
  if c.ready then c.deliver i e else none

/-- Boots node `i` with `cfg`, where the deployment's duty lets it: the first BOOT and every later one, with the same
configuration or another (44_dispatcher.md R187; log entry 15). The facility first discards "expiries of the previous
incarnation" (44_dispatcher.md R190). -/
def Chain.bootNode (i : Nat) (cfg : BootCfg) (c : Chain) : Option Chain :=
  match c.nodes[i]? with
  | none   => none
  | some d =>
    if deploymentAdmits (c.deployment.set i (some cfg)) then
      ({ c with nodes := c.nodes.set i { d with deployed := some cfg, expiries := [], starts := 0 } } : Chain).deliver i
        (.boot cfg)
    else none

/-- The facility still owes or may still deliver this expiry: it is not held "across 2^GEN_W later starts"
(44_dispatcher.md R190, 41_timer.md R124). The difference counts the expiry's own start too, so the later ones are fewer
than 2^GEN_W. -/
def Node.mayDeliver (d : Node) (x : Expiry) : Bool := decide (d.starts - x.startNo ≤ 2 ^ d.core.config.genW)

/-- Delivers an expiry the facility holds, cancelled or not. -/
def Chain.expire (i k : Nat) (c : Chain) : Option Chain :=
  match c.nodes[i]? with
  | none   => none
  | some d =>
    match d.expiries[k]? with
    | none   => none
    | some x =>
      if d.mayDeliver x then
        ({ c with nodes := c.nodes.set i { d with expiries := d.expiries.eraseIdx k } } : Chain).deliverReady i
          (.timer x.gen)
      else none

/-- The application offers a payload "only while the last INTAKE action was INTAKE(1), and at most MAX_MSG bytes"
(44_dispatcher.md R190). -/
def Chain.offer (i : Nat) (p : Bytes) (c : Chain) : Option Chain :=
  match c.nodes[i]? with
  | none   => none
  | some d => if d.intakeOn && payloadFits d.core.config.maxMsg p then c.deliverReady i (.payload p) else none

/-- One move of the environment, with the transition it causes; none where R190 gives it no such move. A link may deliver
a sent frame any number of times, in any order, with any bytes as a corrupted copy (20_memory.md R60;
93_implementation_defined.md U6). -/
def Chain.move (m : Move) (c : Chain) : Option Chain :=
  match m with
  | .boot i cfg    => c.bootNode i cfg
  | .frame k       => c.wire[k]?.bind fun f => c.deliverReady f.dst (.frame f.link f.bytes)
  | .corrupted k b => c.wire[k]?.bind fun f => c.deliverReady f.dst (.frame f.link b)
  | .expiry i k    => c.expire i k
  | .payload i p   => c.offer i p
  | .diag i        => c.deliverReady i .diag

/-! ## Runs -/

/-- A finite run: the moves one after another (20_memory.md R59, R60). -/
def Chain.run : List Move → Chain → Option Chain
  | [],      c => some c
  | m :: ms, c => (c.move m).bind (Chain.run ms)

/-- A node at power-on with nothing pending (70_reset_and_hazards.md R230, R233: "Clear the timer facility"). -/
def Node.powerOn (config : Config) : Node where
  deployed  := none
  core      := { State.reset with config := config }
  expiries  := []
  starts    := 0
  intakeOn  := false
  delivered := []
  texts     := []

/-- The chain before any BOOT (70_reset_and_hazards.md R233), its cores' parameters from left to right. DESIGN CHOICE (log
entry 22): each core has parameters of its own, so two nodes may differ in any of them, as two links of the same number
may. -/
def Chain.powerOn (configs : List Config) : Chain where
  nodes := configs.map Node.powerOn
  wire  := []

/-- A node "waits for nothing it will act on without a new frame or payload" (44_dispatcher.md R191). -/
def State.quiescent (s : State) : Bool := !s.tmrActive

/-- Every node is quiescent (44_dispatcher.md R191). It says nothing of frames still in a link, of stale expiries, or of
payloads the application still has. -/
def Chain.quiescent (c : Chain) : Bool := c.nodes.all (·.core.quiescent)

/-- `run` is the run in which the scheduler makes `moves`, one at a time; where it has no event to deliver, nothing
happens. -/
def IsRun (moves : Nat → Option Move) (run : Nat → Chain) : Prop :=
  ∀ n, match moves n with
    | some m => (run n).move m = some (run (n + 1))
    | none   => run (n + 1) = run n

/-- The run ends at time `n`: "when the scheduler has no event to deliver to any node" (44_dispatcher.md R191), then and
ever after. It does not say that the facility holds no expiry, the links no frame and the application no payload. -/
def EndsAt (moves : Nat → Option Move) (n : Nat) : Prop := ∀ m, n ≤ m → moves m = none

/-- The fairness of timers, for claims that something eventually happens (44_dispatcher.md R190): along the run `run`,
every expiry held at node `i` and not cancelled is at some later time held no more. -/
def TimersFair (run : Nat → Chain) : Prop :=
  ∀ (n i : Nat) (d : Node) (x : Expiry), (run n).nodes[i]? = some d → x ∈ d.expiries → x.cancelled = false →
    ∃ (m : Nat) (d' : Node), n ≤ m ∧ (run m).nodes[i]? = some d' ∧ x ∉ d'.expiries

/-- The fairness of links (44_dispatcher.md R190): along the run `run` with moves `moves`, a frame that is handed to a link
infinitely often is delivered uncorrupted infinitely often. -/
def LinksFair (moves : Nat → Option Move) (run : Nat → Chain) : Prop :=
  ∀ f : Transit, (∀ n : Nat, ∃ m k : Nat, n ≤ m ∧ (run n).wire.length ≤ k ∧ (run m).wire[k]? = some f) →
    ∀ n : Nat, ∃ m k : Nat, n ≤ m ∧ moves m = some (.frame k) ∧ (run m).wire[k]? = some f

end Sys2Proof.Machine
end

