-- ==== Sys2Proof/Machine/Port.lean ====
section
/-! DEFINITION. The read-only observation port (10_state.md R38). -/
namespace Sys2Proof.Machine

/-- A field of a port word: `v` with its least significant bit at bit `at_`, every other bit zero. -/
def portField {n : Nat} (at_ : Nat) (v : BitVec n) : BitVec 32 := v.setWidth 32 <<< at_

/-- CFG: booted, role, orig in bits 0 to 2, node_id in bits 31:16. -/
def portCfg (s : State) : BitVec 32 :=
  portField 0 (BitVec.ofBool s.booted) ||| portField 1 (roleBit s.role) ||| portField 2 (BitVec.ofBool s.orig) |||
    portField 16 s.nodeId

/-- SEQ: ackexpected, nextframetosend, frameexpected in bits 0 to 2. -/
def portSeq (s : State) : BitVec 32 :=
  portField 0 s.ackexpected ||| portField 1 s.nextframetosend ||| portField 2 s.frameexpected

/-- CTL: snd_wait, intake_en, buf_full, buf_seq, tmr_active in bits 0 to 4, buf_len in bits 31:16. -/
def portCtl (s : State) : BitVec 32 :=
  portField 0 (BitVec.ofBool s.sndWait) ||| portField 1 (BitVec.ofBool s.intakeEn) |||
    portField 2 (BitVec.ofBool s.bufFull) ||| portField 3 s.bufSeq ||| portField 4 (BitVec.ofBool s.tmrActive) |||
    portField 16 s.bufLen

/-- Reads a word of the port. "An address not listed reads 0x00000000" (10_state.md R38). -/
def portRead (addr : Nat) (s : State) : BitVec 32 :=
  match addr with
  | 0 => portCfg s
  | 1 => portSeq s
  | 2 => portCtl s
  | 3 => s.tmrGen
  | 4 => portField 0 s.fault
  | 5 => portField 0 s.status
  | _ => 0#32

/-- "A write to the port is ignored" (10_state.md R38). -/
def portWrite (_addr : Nat) (_v : BitVec 32) (s : State) : State := s

end Sys2Proof.Machine
end

