-- ==== Sys2Proof/Machine/Script.lean ====
section
/-! DEFINITION. The textual notation of events and actions (30_encoding.md R84 to R86): a reader for one line of an event
script, the expansions of the pseudo-events, and a writer for actions. -/
namespace Sys2Proof.Machine

/-- `[DATA(s, p)]` (30_encoding.md R84); `[ACK(s)]` is `ackFrame`. DESIGN CHOICE (log entry 19): R84 makes it an ENCODE, and
40_codec.md R100 gives ENCODE no result for a payload over MAX_MSG; the notation stands for the layout of R70 then too,
without ENCODE's check, a frame that VALIDATE discards. -/
def dataFrame (cf : Config) (seq : SeqBit) (p : Bytes) : Bytes := frameBytes cf .data seq p

/-- The forms of 30_encoding.md R85 and the pseudo-events of R86. -/
inductive ScriptItem where
  | boot (cfg : BootCfg)
  | rx (link : Link) (bytes : Bytes)
  | expire (gen : Gen)
  | payload (p : Bytes)
  | diag
  | rxData (link : Link) (seq : SeqBit) (p : Bytes)
  | rxAck (link : Link) (seq : SeqBit)
  | rxBad (link : Link) (bytes : Bytes)
  deriving DecidableEq, Repr

/-- The event a form stands for (30_encoding.md R85, R86). -/
def ScriptItem.event (cf : Config) : ScriptItem → Event
  | .boot cfg     => .boot cfg
  | .rx l b       => .frame l b
  | .expire g     => .timer g
  | .payload p    => .payload p
  | .diag         => .diag
  | .rxData l s p => .frame l (dataFrame cf s p)
  | .rxAck l s    => .frame l (ackFrame cf s)
  | .rxBad l b    => .frame l b

/-- One line of a script. A comment or LOST line delivers nothing (30_encoding.md R85, R86), nor does a line that holds a
further action of the event above it. -/
inductive ScriptLine where
  | comment
  | lost
  | action
  | event (node : Text) (item : ScriptItem)
  deriving DecidableEq, Repr

/-- A word of a line, or quoted ASCII. -/
inductive Token where
  | word (t : Text)
  | quoted (t : Text)
  deriving DecidableEq, Repr

/-- The word read so far, as a token. -/
def pendingWord (rev : Text) : List Token := if rev.isEmpty then [] else [.word rev.reverse]

/-- Splits a line at spaces and commas, quoted text kept whole. `quote` holds the text since an opening quote, reversed,
and `rev` the word so far, reversed. An unclosed quote is left as a word that no form reads. -/
def tokenize : Text → Option Text → Text → List Token
  | [],      none,   rev => pendingWord rev
  | [],      some q, rev => pendingWord rev ++ [.word ('"' :: q.reverse)]
  | c :: cs, some q, rev => if c = '"' then .quoted q.reverse :: tokenize cs none rev else tokenize cs (some (c :: q)) rev
  | c :: cs, none,   rev =>
    if c = '"' then pendingWord rev ++ tokenize cs (some []) []
    else if c = ' ' ∨ c = ',' then pendingWord rev ++ tokenize cs none []
    else tokenize cs none (c :: rev)

/-- The tokens before the actions (`=>`) or a trailing comment. -/
def eventTokens (ts : List Token) : List Token :=
  ts.takeWhile fun t =>
    match t with
    | .word ['=', '>']    => false
    | .word (';' :: _) => false
    | _                => true

/-- The value of a decimal digit. -/
def decDigit (c : Char) : Option Nat := if '0' ≤ c ∧ c ≤ '9' then some (c.toNat - '0'.toNat) else none

/-- The value of a hexadecimal digit. -/
def hexDigit (c : Char) : Option Nat :=
  if 'A' ≤ c ∧ c ≤ 'F' then some (c.toNat - 'A'.toNat + 10)
  else if 'a' ≤ c ∧ c ≤ 'f' then some (c.toNat - 'a'.toNat + 10)
  else decDigit c

/-- A decimal number of at least one digit. -/
def readDec (t : Text) : Option Nat :=
  if t.isEmpty then none
  else t.foldl (fun acc c => acc.bind fun n => (decDigit c).map fun d => 10 * n + d) (some 0)

/-- The value after `name=`. -/
def valueOf (name t : Text) : Option Text :=
  if (name ++ ['=']).isPrefixOf t then some (t.drop (name.length + 1)) else none

/-- A sequence bit or flag, written 0 or 1. -/
def readBit (t : Text) : Option SeqBit :=
  if t = ['0'] then some 0#1 else if t = ['1'] then some 1#1 else none

/-- A byte written as two hexadecimal digits. -/
def readByte : Token → Option Byte
  | .word [h, l] => (hexDigit h).bind fun a => (hexDigit l).map fun b => BitVec.ofNat 8 (16 * a + b)
  | _            => none

/-- A byte string: hexadecimal bytes, quoted ASCII, or the word `empty` (30_encoding.md R84). -/
def readBytes (ts : List Token) : Option Bytes :=
  match ts with
  | [.quoted t]                       => some (t.map fun c => BitVec.ofNat 8 c.toNat)
  | [.word ['e', 'm', 'p', 't', 'y']] => some []
  | _                                 => ts.mapM readByte

/-- `link=<l>`. -/
def readLink (t : Text) : Option Link := (valueOf ['l', 'i', 'n', 'k'] t).bind readDec

/-- `role=HOST` or `role=ROUTER`. -/
def readRole (t : Text) : Option Role :=
  match valueOf ['r', 'o', 'l', 'e'] t with
  | some ['H', 'O', 'S', 'T']           => some .host
  | some ['R', 'O', 'U', 'T', 'E', 'R'] => some .router
  | _                                   => none

/-- `role=… orig=… id=…` (30_encoding.md R85); an id is below 2^16 (44_dispatcher.md R180). -/
def readBoot (role orig node : Text) : Option ScriptItem := do
  let r ← readRole role
  let o ← (valueOf ['o', 'r', 'i', 'g'] orig).bind readBit
  let n ← (valueOf ['i', 'd'] node).bind readDec
  if n < 2 ^ 16 then some (.boot { role := r, orig := o == 1#1, nodeId := BitVec.ofNat 16 n }) else none

/-- `gen=<g>`; a tag is below 2^32 (10_state.md R32). -/
def readExpire (gen : Text) : Option ScriptItem := do
  let g ← (valueOf ['g', 'e', 'n'] gen).bind readDec
  if g < 2 ^ 32 then some (.expire (BitVec.ofNat 32 g)) else none

/-- The event of a line, its node's name taken off (30_encoding.md R85, R86). -/
def readItem (ts : List Token) : Option ScriptItem :=
  match ts with
  | [.word ['B', 'O', 'O', 'T'], .word role, .word orig, .word node] => readBoot role orig node
  | .word ['R', 'X'] :: .word l :: bs => do return .rx (← readLink l) (← readBytes bs)
  | [.word ['E', 'X', 'P', 'I', 'R', 'E'], .word g] => readExpire g
  | .word ['P', 'A', 'Y', 'L', 'O', 'A', 'D'] :: bs => do return .payload (← readBytes bs)
  | [.word ['D', 'I', 'A', 'G']] => some .diag
  | .word ['R', 'X', 'D', 'A', 'T', 'A'] :: .word l :: .word s :: bs => do
    return .rxData (← readLink l) (← readBit s) (← readBytes bs)
  | [.word ['R', 'X', 'A', 'C', 'K'], .word l, .word s] => do return .rxAck (← readLink l) (← readBit s)
  | .word ['R', 'X', 'B', 'A', 'D'] :: .word l :: bs => do return .rxBad (← readLink l) (← readBytes bs)
  | _ => none

/-- A node's name, written before a colon. -/
def nodeName (t : Text) : Option Text := if t.getLast? = some ':' then some t.dropLast else none

/-- The tokens of a line without a step number that stands before something else. DESIGN CHOICE (log entry 19): R85's form
has no step number, and programs P2 to P4 of 95_test_vectors.md write one before the node's name. -/
def dropStepNumber (ts : List Token) : List Token :=
  match ts with
  | .word n :: t :: ts' => if (readDec n).isSome then t :: ts' else ts
  | _                   => ts

/-- The first characters of an action's form (00_scope.md R15). -/
def actionHeads : List Text :=
  [['S', 'E', 'N', 'D', '('], ['T', 'S', 'T', 'A', 'R', 'T', '('], ['T', 'C', 'A', 'N', 'C', 'E', 'L', '('],
    ['D', 'E', 'L', 'I', 'V', 'E', 'R', '('], ['I', 'N', 'T', 'A', 'K', 'E', '('],
    ['D', 'I', 'A', 'G', 'T', 'E', 'X', 'T', '(']]

/-- Whether a line's first word begins an action. -/
def beginsAction (t : Text) : Bool := actionHeads.any (·.isPrefixOf t)

/-- Reads one line of an event script (30_encoding.md R85, R86); none for a line of no form. DESIGN CHOICE (log entry 19):
beyond R85's forms it takes what programs P1 to P4 of 95_test_vectors.md write, a step number before the node's name and a
further action ("one per line after `=>`") on a line of its own; neither changes the event a line delivers. An empty line,
on which R85 is silent, is read as a comment (log entry 19). -/
def readLine (line : Text) : Option ScriptLine :=
  match dropStepNumber (tokenize line none []) with
  | []                                 => some .comment
  | .word (';' :: _) :: _              => some .comment
  | .word ['L', 'O', 'S', 'T'] :: _    => some .lost
  | .word name :: ts                   =>
    if beginsAction name then some .action
    else do return .event (← nodeName name) (← readItem (eventTokens ts))
  | .quoted _ :: _                     => none

/-- The two hexadecimal digits of a byte. -/
def writeByte (b : Byte) : Text := [Nat.digitChar (b.toNat / 16), Nat.digitChar (b.toNat % 16)].map Char.toUpper

/-- A byte string as hexadecimal bytes, or `empty` (30_encoding.md R84). -/
def writeBytes (b : Bytes) : Text :=
  if b.isEmpty then ['e', 'm', 'p', 't', 'y'] else (b.map writeByte).flatMap (fun d => [' '] ++ d) |>.drop 1

/-- An action "in the forms of 00_scope.md rule R15" (30_encoding.md R85). -/
def writeAction : Action → Text
  | .send l b    => ['S', 'E', 'N', 'D', '('] ++ Nat.toDigits 10 l ++ [',', ' '] ++ writeBytes b ++ [')']
  | .tstart g d  =>
    ['T', 'S', 'T', 'A', 'R', 'T', '('] ++ Nat.toDigits 10 g.toNat ++ [',', ' '] ++ Nat.toDigits 10 d ++ [')']
  | .tcancel g   => ['T', 'C', 'A', 'N', 'C', 'E', 'L', '('] ++ Nat.toDigits 10 g.toNat ++ [')']
  | .deliver p   => ['D', 'E', 'L', 'I', 'V', 'E', 'R', '('] ++ writeBytes p ++ [')']
  | .intake on   => ['I', 'N', 'T', 'A', 'K', 'E', '(', if on then '1' else '0', ')']
  | .diagtext t  => ['D', 'I', 'A', 'G', 'T', 'E', 'X', 'T', '(', '"'] ++ t ++ ['"', ')']

end Sys2Proof.Machine
end

