-- ==== Sys2Proof/Safety.lean ====
section
/-! DEFINITION. What counts as a safe run, in the terms claims use: the invariants of 10_state.md R41 and R42, the
transitions they speak of, and the legal states of a chain. -/
namespace Sys2Proof.Machine

/-- "A model should treat a state with `S.fault` ≠ 0 as a run that went wrong" (60_exceptions.md R204). -/
def State.faultFree (s : State) : Prop := s.fault = 0x00#8

/-- `S.buf_data` is "a byte string of exactly `S.buf_len` bytes", at most MAX_MSG (10_state.md R30). -/
def State.bufferLegal (s : State) : Prop :=
  s.bufData.length = s.bufLen.toNat ∧ s.bufData.length ≤ s.config.maxMsg

/-- The tag counts modulo 2^GEN_W (10_state.md R32, 41_timer.md R124). -/
def State.tagLegal (s : State) : Prop := s.tmrGen.toNat < 2 ^ s.config.genW

/-- "Bits 7:4 are reserved and read 0" (10_state.md R33). -/
def State.faultLegal (s : State) : Prop := s.fault &&& 0xF0#8 = 0x00#8

/-- "All other codes are reserved and never written" (60_exceptions.md R200). -/
def State.statusLegal (s : State) : Prop := ∃ c : Status, s.status = c.code

/-- A host: the invariants of 10_state.md R41, with the fields a host does not use at their reset value (R35), the timer
running only in WAIT_ACK (42_host.md R143), and intake enabled exactly at an IDLE Originator (R27, 42_host.md R142). -/
def State.hostLegal (s : State) : Prop :=
  s.ackexpected = s.nextframetosend ∧ s.tmrActive = s.sndWait ∧ s.intakeEn = (s.orig && !s.sndWait) ∧
  (s.sndWait = true → s.orig = true) ∧ s.bufFull = false ∧ s.bufSeq = 0#1

/-- A router: `buf_full` and `tmr_active` are equal (10_state.md R41), and the fields a router does not use are at their
reset value (R35). -/
def State.routerLegal (s : State) : Prop :=
  s.bufFull = s.tmrActive ∧ s.nextframetosend = 0#1 ∧ s.sndWait = false ∧ s.intakeEn = false ∧ s.orig = false

/-- Before the first BOOT every field but `fault` and `status` has its power-on value (70_reset_and_hazards.md R230): only
BOOT writes them (44_dispatcher.md R181). -/
def State.powerOnLegal (s : State) : Prop :=
  s.role = .host ∧ s.orig = false ∧ s.nodeId = 0#16 ∧ s.ackexpected = 0#1 ∧ s.nextframetosend = 0#1 ∧
  s.frameexpected = 0#1 ∧ s.sndWait = false ∧ s.intakeEn = false ∧ s.bufFull = false ∧ s.bufSeq = 0#1 ∧
  s.bufLen = 0#16 ∧ s.bufData = [] ∧ s.tmrActive = false ∧ s.tmrGen = 0#32

/-- The invariant of "every state reachable from BOOT through the rules of this spec, whatever frames and expiries the
environment delivers" (10_state.md R41). No operation is handed by its key: the environment delivers only events
(30_encoding.md R81). -/
structure State.Legal (s : State) : Prop where
  noKey  : s.keyPort = none
  buffer : s.bufferLegal
  tag    : s.tagLegal
  fault  : s.faultLegal
  status : s.statusLegal
  host   : s.role = .host → s.hostLegal
  router : s.role = .router → s.routerLegal
  unbooted : s.booted = false → s.powerOnLegal

/-- The router's two windows are in step (10_state.md R42), an invariant only on a channel that delivers no spurious
ACK. -/
def State.windowsInStep (s : State) : Prop :=
  s.role = .router →
    (s.bufFull = true → s.frameexpected ≠ s.ackexpected ∧ s.bufSeq = s.ackexpected) ∧
    (s.bufFull = false → s.frameexpected = s.ackexpected)

/-- The desynchronised router of 10_state.md R42: what it forwards differs from `S.ackexpected`. -/
def State.windowsApart (s : State) : Prop :=
  (s.bufFull = true → s.bufSeq ≠ s.ackexpected ∧ s.frameexpected = s.ackexpected) ∧
  (s.bufFull = false → s.frameexpected ≠ s.ackexpected)

/-- The event is not BOOT: the run-time triggers (00_scope.md R16). -/
def Event.runTime : Event → Bool
  | .boot _ => false
  | _       => true

/-- From `s` the environment's event `e`, the next of the inbox, leads to `t`. -/
def Transition (s : State) (e : Event) (t : State) : Prop :=
  s.keyPort = none ∧ (∃ rest, s.inbox = e :: rest) ∧ step s = .next t

/-- The outcome class recorded in a state (60_exceptions.md R201). -/
def State.recorded (s : State) (c : OutcomeClass) : Prop := ∃ st : Status, s.status = st.code ∧ st.outcomeClass = c

/-- An ACK that "arrives while the buffer is empty" and carries `S.ackexpected` (10_state.md R42,
70_reset_and_hazards.md R239). -/
def spuriousAck (s : State) (e : Event) : Prop :=
  s.role = .router ∧ s.bufFull = false ∧
    ∃ l bytes p, e = .frame l bytes ∧ validateFrame s.config bytes = .valid .ack s.ackexpected p

/-- The tags of a node's timer facility (44_dispatcher.md R190): each held expiry carries the tag of a timer that was
started, the core's tag is that of the last, and while the core's timer runs its expiry is held. -/
def Node.tagsLegal (d : Node) : Prop :=
  d.core.tmrGen = tagOf d.core.config d.starts ∧
  (∀ x ∈ d.expiries, x.gen = tagOf d.core.config (x.startNo + 1) ∧ x.startNo < d.starts) ∧
  (d.core.tmrActive = true → ∃ x ∈ d.expiries, x.startNo + 1 = d.starts ∧ x.cancelled = false)

/-- The core's configuration is that of its latest BOOT (44_dispatcher.md R180). -/
def Node.bootLegal (d : Node) : Prop :=
  d.core.booted = d.deployed.isSome ∧
  ∀ cfg, d.deployed = some cfg → d.core.role = cfg.role ∧ d.core.orig = originator cfg ∧ d.core.nodeId = cfg.nodeId

/-- A node of a chain whose environment kept its duties: no fault was recorded (60_exceptions.md R204). -/
structure Node.Legal (d : Node) : Prop where
  inv    : d.core.Legal
  fault  : d.core.faultFree
  boot   : d.bootLegal
  intake : d.intakeOn = d.core.intakeEn
  tags   : d.tagsLegal

/-- Every node of the chain is legal, and was booted with the role of its place. -/
structure Chain.Legal (c : Chain) : Prop where
  nodes  : ∀ d ∈ c.nodes, d.Legal
  places : placesFit c.deployment = true

/-- The frame a move delivers, by its place in the wire's history. -/
def Move.carries : Move → Option Nat
  | .frame k       => some k
  | .corrupted k _ => some k
  | _              => none

/-- No link reorders: of two deliveries on one link, the later one is of a frame that was sent no earlier (42_host.md
R147). Losing and duplicating are left free. -/
def inOrder (wire : List Transit) (ms : List Move) : Prop :=
  ms.Pairwise fun m m' => ∀ k k' f f', m.carries = some k → m'.carries = some k' → wire[k]? = some f →
    wire[k']? = some f' → f.dst = f'.dst → f.link = f'.link → k ≤ k'

/-- Every corrupted copy is one that VALIDATE discards at every node, as 40_codec.md R106 says of single bits. -/
def corruptionDetected (cfs : List Config) (ms : List Move) : Prop :=
  ∀ k b, Move.corrupted k b ∈ ms → ∀ cf ∈ cfs, ∃ c, validateFrame cf b = .discard c

/-- The payloads offered at node `i`, oldest first. Each offer that is a move of the environment is admitted (44_dispatcher.md
R190). -/
def offered (i : Nat) (ms : List Move) : List Bytes :=
  ms.filterMap fun m =>
    match m with
    | .payload j p => if j = i then some p else none
    | _            => none

/-- No node is booted again. -/
def neverRebooted (ms : List Move) : Prop := ∀ i cfg, Move.boot i cfg ∉ ms

end Sys2Proof.Machine
end

