-- ==== Sys2Proof/Certificates/Slice0/Obligations.lean ====
section
/-! DEFINITION. The statements for the provers. Each docstring names the rules it formalises. `s.takeEvent rest` is `s`
with the event taken from the inbox and the output list emptied: the state in which a transition runs. -/
open Sys2Proof Sys2Proof.Machine

/-! ## Reset and BOOT -/

/-- R230: the power-on state, and what a run-time event does in it. -/
def Obligations.PowerOnIsAllZeroAndRunTimeEventsFault : Prop :=
  (State.reset.booted = false ∧ State.reset.role = .host ∧ State.reset.orig = false ∧ State.reset.nodeId = 0#16 ∧
    State.reset.ackexpected = 0#1 ∧ State.reset.nextframetosend = 0#1 ∧ State.reset.frameexpected = 0#1 ∧
    State.reset.sndWait = false ∧ State.reset.intakeEn = false ∧ State.reset.bufFull = false ∧
    State.reset.bufSeq = 0#1 ∧ State.reset.bufLen = 0#16 ∧ State.reset.bufData = [] ∧
    State.reset.tmrActive = false ∧ State.reset.tmrGen = 0#32 ∧ State.reset.fault = 0x00#8 ∧
    State.reset.status = 0x00#8) ∧
  ∀ (s : State) (e : Event) (rest : List Event),
    s.booted = false → s.keyPort = none → s.inbox = e :: rest → e.runTime = true →
      step s = .next { s.takeEvent rest with fault := s.fault ||| 0x01#8, status := 0x20#8 }

/-- The reset state meets the invariant of R41. -/
def Obligations.PowerOnMeetsTheInvariant : Prop := State.reset.Legal

/-- R180: BOOT writes every field but `S.fault`, emits TCANCEL for a running timer and INTAKE at a host, and is accepted in
any state. -/
def Obligations.BootResetsEveryFieldButFault : Prop :=
  (∀ (o : Operands) (k : Key), k = 0x00#8 ∨ k = 0x10#8 → decode { key := k, operands := o } = .ok (.boot o.cfg)) ∧
  (∀ (cfg : BootCfg) (s : State),
    exec (.boot cfg) s = .next { s with
      booted          := true
      role            := cfg.role
      orig            := if cfg.role = .host then cfg.orig else false
      nodeId          := cfg.nodeId
      ackexpected     := 0#1
      nextframetosend := 0#1
      frameexpected   := 0#1
      sndWait         := false
      intakeEn        := if cfg.role = .host then cfg.orig else false
      bufFull         := false
      bufSeq          := 0#1
      bufLen          := 0#16
      bufData         := []
      tmrActive       := false
      tmrGen          := 0#32
      status          := 0x00#8
      actions         := s.actions ++ (if s.tmrActive then [.tcancel s.tmrGen] else []) ++
        (if cfg.role = .host then [.intake cfg.orig] else []) }) ∧
  ∀ (cfg : BootCfg) (s : State) (rest : List Event), s.keyPort = none → s.inbox = .boot cfg :: rest →
    step s = exec (.boot cfg) (s.takeEvent rest)

/-! ## Dispatch -/

/-- R181: the checks before dispatch, the key formed, and the operation each run-time event runs. A payload that R183's
checks do not admit forms no key at a host: its fault is in the next statement. -/
def Obligations.RunTimeEventsRunTheirOperation : Prop :=
  ∀ (s : State) (rest : List Event), s.keyPort = none →
    (s.booted = false → ∀ e : Event, e.runTime = true → s.inbox = e :: rest →
      step s = .next { s.takeEvent rest with fault := s.fault ||| 0x01#8, status := 0x20#8 }) ∧
    (s.booted = true →
      (∀ l bytes c, s.inbox = .frame l bytes :: rest → validateFrame s.config bytes = .discard c →
        step s = .next { s.takeEvent rest with
          status := match c with | .short => 0x01#8 | .checksum => 0x02#8 | .length => 0x03#8 | .format => 0x04#8 }) ∧
      (∀ l bytes kind q p, s.inbox = .frame l bytes :: rest →
        validateFrame s.config bytes = .valid kind q p →
        let op : Instr := match s.role, kind with
          | .host,   .data => .hData q p
          | .host,   .ack  => .hAck q
          | .router, .data => .rData q p
          | .router, .ack  => .rAck q
        decode { key := 0b000#3 ++ BitVec.ofBool (s.role = .router) ++ BitVec.ofBool (kind = .ack) ++ 0b001#3,
                 operands := { seq := q, bytes := p } } = .ok op ∧
        step s = exec op (s.takeEvent rest)) ∧
      (∀ g, s.inbox = .timer g :: rest → s.tmrActive = true → g = s.tmrGen →
        let op : Instr := match s.role with | .host => .hTimeout | .router => .rTimeout
        decode { key := 0b000#3 ++ BitVec.ofBool (s.role = .router) ++ 0#1 ++ 0b010#3 } = .ok op ∧
        step s = exec op { s.takeEvent rest with tmrActive := false }) ∧
      (∀ g, s.inbox = .timer g :: rest → (s.tmrActive = false ∨ g ≠ s.tmrGen) →
        step s = .next { s.takeEvent rest with status := 0x14#8 }) ∧
      (∀ p, s.inbox = .payload p :: rest → s.role = .router →
        decode { key := 0x13#8, operands := { bytes := p } } = .ok (.rPayload p) ∧
        step s = exec (.rPayload p) (s.takeEvent rest)) ∧
      (∀ p, s.inbox = .payload p :: rest → s.role = .host → s.intakeEn = true → p.length ≤ s.config.maxMsg →
        decode { key := 0x03#8, operands := { bytes := p } } = .ok (.hSend p) ∧
        step s = exec (.hSend p) (s.takeEvent rest)) ∧
      (s.inbox = .diag :: rest → step s = exec .diag (s.takeEvent rest)))

/-- R183: the admission checks of PAYLOAD, in their order. -/
def Obligations.PayloadAdmissionChecksInOrder : Prop :=
  ∀ (s : State) (p : Bytes) (rest : List Event), s.keyPort = none → s.booted = true → s.inbox = .payload p :: rest →
    (s.role = .router →
      step s = .next { s.takeEvent rest with fault := s.fault ||| 0x04#8, status := 0x22#8 }) ∧
    (s.role = .host → s.intakeEn = false →
      step s = .next { s.takeEvent rest with fault := s.fault ||| 0x02#8, status := 0x21#8 }) ∧
    (s.role = .host → s.intakeEn = true → s.config.maxMsg < p.length →
      step s = .next { s.takeEvent rest with fault := s.fault ||| 0x08#8, status := 0x23#8 }) ∧
    (s.role = .host → s.intakeEn = true → p.length ≤ s.config.maxMsg →
      step s = exec (.hSend p) (s.takeEvent rest) ∧ ∃ t, step s = .next t ∧ t.fault = s.fault ∧ t.sndWait = true)

/-- R183's faults, for an H_SEND that is handed by its key. That the key's operation answers with the fault of the event
is the model's reading (log entry 8). -/
def Obligations.KeyedSendFaultsOutsideItsPrecondition : Prop :=
  ∀ (s : State) (p : Bytes),
    (s.role = .router →
      exec (.hSend p) s = .next { s with fault := s.fault ||| 0x04#8, status := 0x22#8 }) ∧
    (s.role = .host → s.intakeEn = false →
      exec (.hSend p) s = .next { s with fault := s.fault ||| 0x02#8, status := 0x21#8 }) ∧
    (s.role = .host → s.intakeEn = true → s.config.maxMsg < p.length →
      exec (.hSend p) s = .next { s with fault := s.fault ||| 0x08#8, status := 0x23#8 })

/-- R182: the arrival link of a frame takes no part, and every frame is sent on its role's link, which is 1 for a host, and
1 upstream and 2 downstream for a router. -/
def Obligations.LinksAreFixedByRoleAndKind : Prop :=
  (∀ (s : State) (l l' : Link) (bytes : Bytes) (rest : List Event), s.keyPort = none →
    step { s with inbox := .frame l bytes :: rest } = step { s with inbox := .frame l' bytes :: rest }) ∧
  (∀ (s t : State) (e : Event) (l : Link) (bytes : Bytes), Transition s e t → e.runTime = true →
    .send l bytes ∈ t.actions →
    (s.role = .host → l = s.config.hostLink) ∧
    (s.role = .router →
      (l = s.config.routerUpLink ∧ ∃ q, bytes = frameBytes s.config .ack q []) ∨
      (l = s.config.routerDownLink ∧ ∃ q p, bytes = frameBytes s.config .data q p))) ∧
  ∀ c : Config, c.SpecValues → c.hostLink = 1 ∧ c.routerUpLink = 1 ∧ c.routerDownLink = 2

/-- A step runs the operation handed by its key, and refuses a reserved key (R83). The key port is the model's own (log
entry 3). -/
def Obligations.StepRunsTheDecodedOperation : Prop :=
  ∀ (s : State) (w : KeyWord), s.keyPort = some w →
    (∀ i, decode w = .ok i → step s = exec i { s with keyPort := none, actions := [], result := none }) ∧
    (∀ why, decode w = .error why → step s = .refused (.reservedKey w.key why))

/-- With no event delivered a node holds its state (R216; the idle step is the model's reading, log entry 7). -/
def Obligations.NodeHoldsItsStateBetweenEvents : Prop :=
  ∀ s : State, s.keyPort = none → s.inbox = [] → ∀ n, Sys2Proof.core.run n s = .next s

/-! ## The host engine -/

/-- R140: an admitted H_SEND. -/
def Obligations.HostSendStartsWaiting : Prop :=
  (∀ o : Operands, decode { key := 0x03#8, operands := o } = .ok (.hSend o.bytes)) ∧
  ∀ (s : State) (p : Bytes), s.role = .host → s.intakeEn = true → p.length ≤ s.config.maxMsg →
    exec (.hSend p) s = .next { s with
      bufLen    := BitVec.ofNat 16 p.length
      bufData   := p
      tmrGen    := nextGen s.config s.tmrGen
      tmrActive := true
      sndWait   := true
      intakeEn  := false
      status    := 0x00#8
      actions   := s.actions ++ [.send s.config.hostLink (frameBytes s.config .data s.nextframetosend p)] ++
        (if s.tmrActive then [.tcancel s.tmrGen] else []) ++
        [.tstart (nextGen s.config s.tmrGen) (timeoutUs s.config s.config.hostLink (6 + p.length)), .intake false] }

/-- R142: an ACK at a host, idle, mismatched or matching. -/
def Obligations.HostAckReturnsToIdleOnlyOnAMatch : Prop :=
  (∀ o : Operands, decode { key := 0x09#8, operands := o } = .ok (.hAck o.seq)) ∧
  ∀ (s : State) (q : SeqBit),
    (s.sndWait = false → exec (.hAck q) s = .next { s with status := 0x13#8 }) ∧
    (s.sndWait = true → q ≠ s.ackexpected → exec (.hAck q) s = .next { s with status := 0x12#8 }) ∧
    (s.sndWait = true → q = s.ackexpected →
      exec (.hAck q) s = .next { s with
        tmrActive       := false
        ackexpected     := s.ackexpected ^^^ 1#1
        nextframetosend := s.nextframetosend ^^^ 1#1
        sndWait         := false
        intakeEn        := true
        status          := 0x00#8
        actions         := s.actions ++ (if s.tmrActive then [.tcancel s.tmrGen] else []) ++ [.intake true] })

/-- R143: a retransmission sends the buffered payload with the same sequence bit; outside WAIT_ACK the rule is refused. -/
def Obligations.HostTimeoutRetransmitsTheSameFrame : Prop :=
  (∀ o : Operands, decode { key := 0x02#8, operands := o } = .ok .hTimeout) ∧
  ∀ s : State,
    (s.sndWait = true → s.bufferLegal →
      exec .hTimeout s = .next { s with
        tmrGen    := nextGen s.config s.tmrGen
        tmrActive := true
        status    := 0x00#8
        actions   := s.actions ++ [.send s.config.hostLink (frameBytes s.config .data s.nextframetosend s.bufData)] ++
          (if s.tmrActive then [.tcancel s.tmrGen] else []) ++
          [.tstart (nextGen s.config s.tmrGen) (timeoutUs s.config s.config.hostLink (6 + s.bufData.length))] }) ∧
    (s.sndWait = false → exec .hTimeout s = .refused .timeoutWhileIdle)

/-- R144: DATA at a host, expected, re-acknowledged or dropped. -/
def Obligations.HostDataDeliversOnlyTheExpectedBit : Prop :=
  (∀ o : Operands, decode { key := 0x01#8, operands := o } = .ok (.hData o.seq o.bytes)) ∧
  ∀ (s : State) (q : SeqBit) (p : Bytes),
    (q = s.frameexpected →
      exec (.hData q p) s = .next { s with
        frameexpected := s.frameexpected ^^^ 1#1
        status        := 0x00#8
        actions       := s.actions ++ [.deliver p, .send s.config.hostLink (frameBytes s.config .ack q [])] }) ∧
    (q ≠ s.frameexpected → s.config.reackDuplicates = true →
      exec (.hData q p) s = .next { s with
        status := 0x08#8, actions := s.actions ++ [.send s.config.hostLink (frameBytes s.config .ack q [])] }) ∧
    (q ≠ s.frameexpected → s.config.reackDuplicates = false →
      exec (.hData q p) s = .next { s with status := 0x10#8 })

/-! ## The router engine -/

/-- R160: DATA at a router, full, mismatched or forwarded. -/
def Obligations.RouterDataForwardsOnlyIntoAnEmptyBuffer : Prop :=
  (∀ o : Operands, decode { key := 0x11#8, operands := o } = .ok (.rData o.seq o.bytes)) ∧
  ∀ (s : State) (q : SeqBit) (p : Bytes),
    (s.bufFull = true → exec (.rData q p) s = .next { s with status := 0x11#8 }) ∧
    (s.bufFull = false → q ≠ s.frameexpected → s.config.reackDuplicates = true →
      exec (.rData q p) s = .next { s with
        status := 0x08#8, actions := s.actions ++ [.send s.config.routerUpLink (frameBytes s.config .ack q [])] }) ∧
    (s.bufFull = false → q ≠ s.frameexpected → s.config.reackDuplicates = false →
      exec (.rData q p) s = .next { s with status := 0x10#8 }) ∧
    (s.bufFull = false → q = s.frameexpected → p.length ≤ s.config.maxMsg →
      exec (.rData q p) s = .next { s with
        frameexpected := s.frameexpected ^^^ 1#1
        tmrGen        := nextGen s.config s.tmrGen
        tmrActive     := true
        bufFull       := true
        bufSeq        := q
        bufLen        := BitVec.ofNat 16 p.length
        bufData       := p
        status        := 0x00#8
        actions       := s.actions ++
          [.send s.config.routerUpLink (frameBytes s.config .ack q []),
            .send s.config.routerDownLink (frameBytes s.config .data q p)] ++
          (if s.tmrActive then [.tcancel s.tmrGen] else []) ++
          [.tstart (nextGen s.config s.tmrGen) (timeoutUs s.config s.config.routerDownLink (6 + p.length))] })

/-- R100's refusal, at an R_DATA that is handed by its key with a payload over MAX_MSG, which no validated frame has. That
the keyed operation makes the illegal call is the model's reading (log entry 9). -/
def Obligations.KeyedRouterDataOverMaxMsgIsRefused : Prop :=
  ∀ (s : State) (q : SeqBit) (p : Bytes), s.bufFull = false → q = s.frameexpected → s.config.maxMsg < p.length →
    decode { key := 0x11#8, operands := { seq := q, bytes := p } } = .ok (.rData q p) ∧
    exec (.rData q p) s = .refused .encodeOversize

/-- R161: an ACK at a router, with no buffer condition. -/
def Obligations.RouterAckReleasesTheBufferOnAMatch : Prop :=
  (∀ o : Operands, decode { key := 0x19#8, operands := o } = .ok (.rAck o.seq)) ∧
  ∀ (s : State) (q : SeqBit),
    (q ≠ s.ackexpected → exec (.rAck q) s = .next { s with status := 0x12#8 }) ∧
    (q = s.ackexpected →
      exec (.rAck q) s = .next { s with
        ackexpected := s.ackexpected ^^^ 1#1
        bufFull     := false
        tmrActive   := false
        status      := 0x00#8
        actions     := s.actions ++ (if s.tmrActive then [.tcancel s.tmrGen] else []) })

/-- R162: a retransmission sends the buffered payload with the buffered sequence bit; with the buffer empty the rule is
refused. -/
def Obligations.RouterTimeoutRetransmitsTheBufferedFrame : Prop :=
  (∀ o : Operands, decode { key := 0x12#8, operands := o } = .ok .rTimeout) ∧
  ∀ s : State,
    (s.bufFull = true → s.bufferLegal →
      exec .rTimeout s = .next { s with
        tmrGen    := nextGen s.config s.tmrGen
        tmrActive := true
        status    := 0x00#8
        actions   := s.actions ++ [.send s.config.routerDownLink (frameBytes s.config .data s.bufSeq s.bufData)] ++
          (if s.tmrActive then [.tcancel s.tmrGen] else []) ++
          [.tstart (nextGen s.config s.tmrGen) (timeoutUs s.config s.config.routerDownLink (6 + s.bufData.length))] }) ∧
    (s.bufFull = false → exec .rTimeout s = .refused .timeoutWhileEmpty)

/-- R163: a payload offered to a router. -/
def Obligations.RouterPayloadRaisesTheRoleFault : Prop :=
  (∀ o : Operands, decode { key := 0x13#8, operands := o } = .ok (.rPayload o.bytes)) ∧
  ∀ (s : State) (p : Bytes),
    exec (.rPayload p) s = .next { s with fault := s.fault ||| 0x04#8, status := 0x22#8 }

/-! ## DIAG and the observation port -/

/-- R184, R185: DIAG returns the text of the three sequence bits and changes nothing else. -/
def Obligations.DiagReturnsTheThreeBits : Prop :=
  (∀ (o : Operands) (k : Key), k = 0x04#8 ∨ k = 0x14#8 → decode { key := k, operands := o } = .ok .diag) ∧
  ∀ s : State, ∃ text : Text,
    exec .diag s = .next { s with status := 0x00#8, actions := s.actions ++ [.diagtext text] } ∧
    String.ofList text =
      "ackexpected=" ++ (if s.ackexpected = 1#1 then "1" else "0") ++
      " nextframetosend=" ++ (if s.nextframetosend = 1#1 then "1" else "0") ++
      " frameexpected=" ++ (if s.frameexpected = 1#1 then "1" else "0")

/-- R38: the words of the observation port; an address not listed reads zero, and a write is ignored. -/
def Obligations.ObservationPortShowsEveryField : Prop :=
  ∀ s : State,
    ((portRead 0 s).getLsbD 0 = s.booted ∧ (portRead 0 s).getLsbD 1 = decide (s.role = .router) ∧
      (portRead 0 s).getLsbD 2 = s.orig ∧ (portRead 0 s).extractLsb' 3 13 = 0#13 ∧
      (portRead 0 s).extractLsb' 16 16 = s.nodeId) ∧
    ((portRead 1 s).extractLsb' 0 1 = s.ackexpected ∧ (portRead 1 s).extractLsb' 1 1 = s.nextframetosend ∧
      (portRead 1 s).extractLsb' 2 1 = s.frameexpected ∧ (portRead 1 s).extractLsb' 3 29 = 0#29) ∧
    ((portRead 2 s).getLsbD 0 = s.sndWait ∧ (portRead 2 s).getLsbD 1 = s.intakeEn ∧
      (portRead 2 s).getLsbD 2 = s.bufFull ∧ (portRead 2 s).extractLsb' 3 1 = s.bufSeq ∧
      (portRead 2 s).getLsbD 4 = s.tmrActive ∧ (portRead 2 s).extractLsb' 5 11 = 0#11 ∧
      (portRead 2 s).extractLsb' 16 16 = s.bufLen) ∧
    portRead 3 s = s.tmrGen ∧
    ((portRead 4 s).extractLsb' 0 8 = s.fault ∧ (portRead 4 s).extractLsb' 8 24 = 0#24) ∧
    ((portRead 5 s).extractLsb' 0 8 = s.status ∧ (portRead 5 s).extractLsb' 8 24 = 0#24) ∧
    (∀ addr, 5 < addr → portRead addr s = 0#32) ∧
    (∀ addr v, portWrite addr v s = s)

/-! ## The codec -/

/-- R100: the frame ENCODE builds, and the calls a model must refuse. -/
def Obligations.EncodeBuildsTheFrameOrRefuses : Prop :=
  (∀ o : Operands, decode { key := 0xE0#8, operands := o } = .ok (.encode o.kind o.seq o.bytes)) ∧
  ∀ (s : State) (k : Kind) (q : SeqBit) (p : Bytes),
    (p.length ≤ s.config.maxMsg → (k = .ack → p = []) →
      ∃ (header : Bytes) (c : BitVec 16),
        header = [if k = .data then 0x00#8 else 0x01#8, q.setWidth 8,
          (BitVec.ofNat 16 p.length).extractLsb' 8 8, (BitVec.ofNat 16 p.length).extractLsb' 0 8] ∧
        c = integrity s.config.integrity (header ++ [0x00#8, 0x00#8] ++ p) ∧
        exec (.encode k q p) s = .next { s with
          result := some (.encoded (header ++ [c.extractLsb' 8 8, c.extractLsb' 0 8] ++ p)) }) ∧
    (k = .ack → p ≠ [] → exec (.encode k q p) s = .refused .encodeAckPayload) ∧
    (k = .data → s.config.maxMsg < p.length → exec (.encode k q p) s = .refused .encodeOversize)

/-- R102: VALIDATE's checks, by byte numbers, in their order. -/
def Obligations.ValidateChecksInOrder : Prop :=
  (∀ o : Operands, decode { key := 0xE1#8, operands := o } = .ok (.validate o.bytes)) ∧
  ∀ (s : State) (b : Bytes),
    exec (.validate b) s = .next { s with result := some (.validated (
      let len := be16 (byteAt b 2) (byteAt b 3)
      if b.length < 6 then .discard .short
      else if be16 (byteAt b 4) (byteAt b 5) ≠ integrity s.config.integrity (zeroChecksum b) then .discard .checksum
      else if b.length ≠ 6 + len.toNat then .discard .length
      else if byteAt b 0 ≠ 0x00#8 ∧ byteAt b 0 ≠ 0x01#8 then .discard .format
      else if byteAt b 1 ≠ 0x00#8 ∧ byteAt b 1 ≠ 0x01#8 then .discard .format
      else if byteAt b 0 = 0x01#8 ∧ len ≠ 0#16 then .discard .format
      else if byteAt b 0 = 0x00#8 ∧ s.config.maxMsg < len.toNat then .discard .format
      else .valid (if byteAt b 0 = 0x00#8 then .data else .ack) ((byteAt b 1).extractLsb' 0 1) (b.drop 6))) }

/-- R51, R101: byte `k` of the payload is byte 6 + `k` of the frame, and the frame is 6 bytes and its payload. -/
def Obligations.PayloadIsCarriedUnchanged : Prop :=
  ∀ (cf : Config) (k : Kind) (q : SeqBit) (p : Bytes),
    (frameBytes cf k q p).length = 6 + p.length ∧ ∀ i, (frameBytes cf k q p)[6 + i]? = p[i]?

/-- R107: a frame that was encoded is decoded to what it was made of. -/
def Obligations.DecodingAnEncodedFrameGivesItBack : Prop :=
  ∀ (cf : Config) (k : Kind) (q : SeqBit) (p : Bytes), p.length ≤ cf.maxMsg → (k = .ack → p = []) →
    validateFrame cf (frameBytes cf k q p) = .valid k q p

/-- The other direction of R107: a string that is accepted is the frame of what it was decoded to. -/
def Obligations.AnAcceptedStringIsTheFrameOfItsFields : Prop :=
  ∀ (cf : Config) (b : Bytes) (k : Kind) (q : SeqBit) (p : Bytes),
    validateFrame cf b = .valid k q p → frameBytes cf k q p = b ∧ p.length ≤ cf.maxMsg ∧ (k = .ack → p = [])

/-- R78: the legal frames are exactly the strings VALIDATE accepts; every other string is discarded, with no
acknowledgement and no side effect. -/
def Obligations.LegalFramesAreTheAcceptedStrings : Prop :=
  ∀ (cf : Config) (b : Bytes),
    (legalFrame cf b ↔ ∃ k q p, validateFrame cf b = .valid k q p) ∧
    (¬ legalFrame cf b ↔ ∃ c, validateFrame cf b = .discard c) ∧
    ∀ (s : State) (l : Link) (rest : List Event), s.config = cf → ¬ legalFrame cf b → s.booted = true →
      s.keyPort = none → s.inbox = .frame l b :: rest →
        ∃ code, step s = .next { s.takeEvent rest with status := code }

/-- R106: a legal frame with exactly one bit inverted, anywhere, is discarded with CHECKSUM, whichever function of log entry
10 stands for INTEGRITY. -/
def Obligations.EverySingleBitErrorIsDetected : Prop :=
  ∀ (cf : Config) (b : Bytes) (i k : Nat), legalFrame cf b → i < b.length → k < 8 →
    validateFrame cf (invertBit b i k) = .discard .checksum

/-! ## The operation key -/

/-- Decoding the key word of an operation gives the operation back, with every operand. -/
def Obligations.DecodingAnEncodedOperationGivesItBack : Prop :=
  ∀ i : Instr, decode (encode i) = .ok i

/-- R83: the reserved keys are exactly the ones the rule lists, and each is rejected. -/
def Obligations.ReservedKeysAreExactlyTheListedOnes : Prop :=
  ∀ (k : Key) (o : Operands),
    ((k.extractLsb' 5 3 ≠ 0b000#3 ∧ k.extractLsb' 5 3 ≠ 0b111#3) ∨
     (k.extractLsb' 5 3 = 0b000#3 ∧ 0b101#3 ≤ k.extractLsb' 0 3) ∨
     (k.extractLsb' 5 3 = 0b000#3 ∧ k.getLsbD 3 = true ∧ k.extractLsb' 0 3 ≠ 0b001#3) ∨
     (k.extractLsb' 5 3 = 0b111#3 ∧ (k.extractLsb' 3 2 ≠ 0b00#2 ∨ 0b101#3 ≤ k.extractLsb' 0 3))) ↔
    ∃ why, decode { key := k, operands := o } = .error why

/-- A few rows of the operation map of R82, written out. The key has no operand bits: that a table word decodes with every
operand zero (BOOT as a host that is no Originator, an ACK of bit 0) is the model's choice (log entry 17). -/
def Obligations.WrittenKeysSelectTheirOperation : Prop :=
  decodeTableWord 8 0b00000000 = some (.boot { role := .host, orig := false, nodeId := 0#16 }) ∧
  decodeTableWord 8 0b00010000 = some (.boot { role := .host, orig := false, nodeId := 0#16 }) ∧
  decodeTableWord 8 0b00001001 = some (.hAck 0#1) ∧
  decodeTableWord 8 0b00010010 = some .rTimeout ∧
  decodeTableWord 8 0b11100011 = some .timerCancel ∧
  decodeTableWord 8 0b00000101 = none ∧
  decodeTableWord 8 0b11100101 = none

/-! ## The timer arbiter -/

/-- R121, with the duration of R120 written out: TIMEOUT_FACTOR is 3 and GEN_W is 32 by R10. -/
def Obligations.TimerStartTagsAndTimes : Prop :=
  (∀ o : Operands, decode { key := 0xE2#8, operands := o } = .ok (.timerStart o.link o.size)) ∧
  (∀ (s : State) (l : Link) (size : Nat),
    exec (.timerStart l size) s = .next { s with
      tmrGen    := BitVec.ofNat 32 ((s.tmrGen.toNat + 1) % 2 ^ s.config.genW)
      tmrActive := true
      actions   := s.actions ++ (if s.tmrActive then [.tcancel s.tmrGen] else []) ++
        [.tstart (BitVec.ofNat 32 ((s.tmrGen.toNat + 1) % 2 ^ s.config.genW))
          (s.config.timeoutFactor *
            (size * 8 * 1000000 / (linkParams s.config l).bandwidthBps + (linkParams s.config l).propDelayUs))] }) ∧
  ∀ c : Config, c.SpecValues → c.timeoutFactor = 3 ∧ c.genW = 32

/-- R122: cancelling stops a running timer and is a no-op without one; the tag stays. -/
def Obligations.TimerCancelStopsOnlyARunningTimer : Prop :=
  (∀ o : Operands, decode { key := 0xE3#8, operands := o } = .ok .timerCancel) ∧
  ∀ s : State,
    (s.tmrActive = true →
      exec .timerCancel s = .next { s with tmrActive := false, actions := s.actions ++ [.tcancel s.tmrGen] }) ∧
    (s.tmrActive = false → exec .timerCancel s = .next s)

/-- R123: an expiry is accepted only with the current tag while the timer runs. That a STALE expiry handed by key records
its status is the model's reading (log entry 6). -/
def Obligations.TimerExpireAcceptsOnlyTheCurrentTag : Prop :=
  (∀ o : Operands, decode { key := 0xE4#8, operands := o } = .ok (.timerExpire o.gen)) ∧
  ∀ (s : State) (g : Gen),
    (s.tmrActive = true → g = s.tmrGen →
      exec (.timerExpire g) s = .next { s with tmrActive := false, result := some (.expiry true) }) ∧
    (s.tmrActive = false ∨ g ≠ s.tmrGen →
      exec (.timerExpire g) s = .next { s with status := 0x14#8, result := some (.expiry false) })

/-- R123: an expiry delivered twice in a row is accepted at most once. -/
def Obligations.AnExpiryIsAcceptedAtMostOnce : Prop :=
  ∀ (s t : State) (g : Gen) (rest : List Event), s.booted = true → s.keyPort = none →
    s.inbox = .timer g :: .timer g :: rest → step s = .next t →
      step t = .next { t.takeEvent rest with status := 0x14#8 }

/-- R126: every timer started in a transition times a DATA frame sent in the same transition. -/
def Obligations.OnlySentDataIsTimed : Prop :=
  ∀ (s t : State) (e : Event) (g : Gen) (d : Nat), Transition s e t → .tstart g d ∈ t.actions →
    t.tmrActive = true ∧ g = t.tmrGen ∧
    ∃ l q p, .send l (frameBytes s.config .data q p) ∈ t.actions ∧ d = timeoutUs t.config l (6 + p.length)

/-- R125, R146: a host in WAIT_ACK, and a router with its buffer full, retransmit the same frame at every accepted expiry,
however many there are. -/
def Obligations.RetransmissionHasNoCeiling : Prop :=
  ∀ (n : Nat) (s : State) (rest : List Event), s.Legal →
    s.inbox = (List.range n).map (fun i => .timer (tagOf s.config (s.tmrGen.toNat + i))) ++ rest →
    (s.role = .host → s.sndWait = true →
      ∃ t, Sys2Proof.core.run n s = .next t ∧ t.Legal ∧ t.sndWait = true ∧ t.inbox = rest ∧
        t.tmrGen = tagOf s.config (s.tmrGen.toNat + n) ∧ t.bufData = s.bufData ∧
        t.nextframetosend = s.nextframetosend ∧
        (0 < n → t.actions = [.send s.config.hostLink (frameBytes s.config .data s.nextframetosend s.bufData),
          .tstart t.tmrGen (timeoutUs s.config s.config.hostLink (6 + s.bufData.length))])) ∧
    (s.role = .router → s.bufFull = true →
      ∃ t, Sys2Proof.core.run n s = .next t ∧ t.Legal ∧ t.bufFull = true ∧ t.inbox = rest ∧
        t.tmrGen = tagOf s.config (s.tmrGen.toNat + n) ∧ t.bufData = s.bufData ∧ t.bufSeq = s.bufSeq ∧
        (0 < n → t.actions = [.send s.config.routerDownLink (frameBytes s.config .data s.bufSeq s.bufData),
          .tstart t.tmrGen (timeoutUs s.config s.config.routerDownLink (6 + s.bufData.length))]))

/-! ## Whole-machine rules -/

/-- R41: every step keeps the invariant, whatever event is delivered. -/
def Obligations.EveryStepKeepsTheInvariant : Prop :=
  ∀ s t : State, s.Legal → step s = .next t → t.Legal

/-- R205, R204: from a state of the invariant every step ends in a next state; nothing is refused and nothing stops the
node. -/
def Obligations.NothingStopsTheNode : Prop :=
  ∀ s : State, s.Legal → ∃ t, step s = .next t

/-- R204: no step clears a fault bit. -/
def Obligations.FaultBitsAreSticky : Prop :=
  ∀ (s t : State) (b : Nat), step s = .next t → s.fault.getLsbD b = true → t.fault.getLsbD b = true

/-- R202, R203: a discard or an ignore changes the status and nothing else, and emits nothing. -/
def Obligations.DropsChangeOnlyTheStatus : Prop :=
  ∀ (s t : State) (e : Event) (rest : List Event), Transition s e t → s.inbox = e :: rest →
    (t.recorded .discard ∨ t.recorded .ignore) → t = { s.takeEvent rest with status := t.status }

/-- R204: a fault sets one bit and the matching status and changes nothing else, and emits nothing. -/
def Obligations.FaultsChangeOnlyTheFaultBitAndStatus : Prop :=
  ∀ (s t : State) (e : Event) (rest : List Event), Transition s e t → s.inbox = e :: rest → t.recorded .fault →
    ∃ mask code, (mask, code) ∈ [(0x01#8, 0x20#8), (0x02#8, 0x21#8), (0x04#8, 0x22#8), (0x08#8, 0x23#8)] ∧
      t = { s.takeEvent rest with fault := s.fault ||| mask, status := code }

/-- R22, R187: only BOOT writes the configuration fields. -/
def Obligations.OnlyBootWritesTheConfiguration : Prop :=
  ∀ (s t : State) (e : Event), Transition s e t → e.runTime = true →
    t.booted = s.booted ∧ t.role = s.role ∧ t.orig = s.orig ∧ t.nodeId = s.nodeId

/-- R22: no rule reads the node's identity. -/
def Obligations.NoRunTimeEventReadsTheNodeId : Prop :=
  ∀ (s t : State) (e : Event) (n : BitVec 16), Transition s e t → e.runTime = true →
    step { s with nodeId := n } = .next { t with nodeId := n }

/-- R23, R24, R25: between BOOTs each sequence bit is written only by the frame that flips it. -/
def Obligations.SequenceBitsFlipOnlyOnAcceptedFrames : Prop :=
  ∀ (s t : State) (e : Event), Transition s e t → e.runTime = true →
    (t.ackexpected ≠ s.ackexpected → t.ackexpected = s.ackexpected ^^^ 1#1 ∧
      ∃ l bytes p, e = .frame l bytes ∧ validateFrame s.config bytes = .valid .ack s.ackexpected p) ∧
    (t.nextframetosend ≠ s.nextframetosend → s.role = .host ∧
      t.nextframetosend = s.nextframetosend ^^^ 1#1 ∧ t.ackexpected = s.ackexpected ^^^ 1#1) ∧
    (t.frameexpected ≠ s.frameexpected → t.frameexpected = s.frameexpected ^^^ 1#1 ∧
      ∃ l bytes p, e = .frame l bytes ∧ validateFrame s.config bytes = .valid .data s.frameexpected p)

/-- R27: between BOOTs each change of `S.intake_en` emits INTAKE. -/
def Obligations.EveryIntakeChangeIsAnnounced : Prop :=
  ∀ (s t : State) (e : Event), Transition s e t → e.runTime = true → t.intakeEn ≠ s.intakeEn →
    .intake t.intakeEn ∈ t.actions

/-- R200: each status code is recorded only for its cause, and no other code is recorded. -/
def Obligations.StatusCodesNameTheirCauses : Prop :=
  ∀ (s t : State) (e : Event), Transition s e t →
    (∃ st : Status, t.status = st.code) ∧
    (t.status = 0x01#8 → ∃ l b, e = .frame l b ∧ validateFrame s.config b = .discard .short) ∧
    (t.status = 0x02#8 → ∃ l b, e = .frame l b ∧ validateFrame s.config b = .discard .checksum) ∧
    (t.status = 0x03#8 → ∃ l b, e = .frame l b ∧ validateFrame s.config b = .discard .length) ∧
    (t.status = 0x04#8 → ∃ l b, e = .frame l b ∧ validateFrame s.config b = .discard .format) ∧
    (t.status = 0x08#8 → s.config.reackDuplicates = true ∧
      ∃ l b q p, e = .frame l b ∧ validateFrame s.config b = .valid .data q p ∧ q ≠ s.frameexpected) ∧
    (t.status = 0x10#8 → s.config.reackDuplicates = false ∧ (s.role = .router → s.bufFull = false) ∧
      ∃ l b q p, e = .frame l b ∧ validateFrame s.config b = .valid .data q p ∧ q ≠ s.frameexpected) ∧
    (t.status = 0x11#8 → s.role = .router ∧ s.bufFull = true ∧
      ∃ l b q p, e = .frame l b ∧ validateFrame s.config b = .valid .data q p) ∧
    (t.status = 0x12#8 → (s.role = .host → s.sndWait = true) ∧
      ∃ l b q p, e = .frame l b ∧ validateFrame s.config b = .valid .ack q p ∧ q ≠ s.ackexpected) ∧
    (t.status = 0x13#8 → s.role = .host ∧ s.sndWait = false ∧
      ∃ l b q p, e = .frame l b ∧ validateFrame s.config b = .valid .ack q p) ∧
    (t.status = 0x14#8 → ∃ g, e = .timer g ∧ (s.tmrActive = false ∨ g ≠ s.tmrGen)) ∧
    (t.status = 0x20#8 → s.booted = false ∧ e.runTime = true) ∧
    (t.status = 0x21#8 → s.role = .host ∧ s.intakeEn = false ∧ ∃ p, e = .payload p) ∧
    (t.status = 0x22#8 → s.role = .router ∧ ∃ p, e = .payload p) ∧
    (t.status = 0x23#8 → s.role = .host ∧ s.intakeEn = true ∧ ∃ p, e = .payload p ∧ s.config.maxMsg < p.length)

/-- R26, R27, R28, R31, R36: each control bit is set and cleared only by the event its rule names. -/
def Obligations.ControlBitsChangeOnlyAsTheirRulesSay : Prop :=
  ∀ (s t : State) (e : Event), Transition s e t → e.runTime = true →
    let admitted := s.role = .host ∧ s.intakeEn = true ∧ ∃ p, e = .payload p ∧ p.length ≤ s.config.maxMsg
    let accepted := ∃ l b p, e = .frame l b ∧ validateFrame s.config b = .valid .ack s.ackexpected p
    let forwarded := s.role = .router ∧ s.bufFull = false ∧
      ∃ l b p, e = .frame l b ∧ validateFrame s.config b = .valid .data s.frameexpected p
    (s.sndWait = false → t.sndWait = true → admitted) ∧
    (s.sndWait = true → t.sndWait = false → s.role = .host ∧ accepted) ∧
    (s.intakeEn = true → t.intakeEn = false → admitted) ∧
    (s.intakeEn = false → t.intakeEn = true → s.role = .host ∧ s.sndWait = true ∧ accepted) ∧
    (s.bufFull = false → t.bufFull = true → forwarded) ∧
    (s.bufFull = true → t.bufFull = false → s.role = .router ∧ accepted) ∧
    (s.tmrActive = false → t.tmrActive = true → admitted ∨ forwarded) ∧
    (s.tmrActive = true → t.tmrActive = false → accepted)

/-- R32: between BOOTs the tag moves only by one, and exactly when a timer is started with the new tag. -/
def Obligations.TagsCountTheTimersStarted : Prop :=
  ∀ (s t : State) (e : Event), Transition s e t → e.runTime = true →
    (t.tmrGen = s.tmrGen ∧ ∀ g d, .tstart g d ∉ t.actions) ∨
    (t.tmrGen = BitVec.ofNat 32 ((s.tmrGen.toNat + 1) % 2 ^ s.config.genW) ∧ ∃ d, .tstart t.tmrGen d ∈ t.actions)

/-- R237: the host writes the buffer only in IDLE, and the router only with the buffer empty. -/
def Obligations.BufferIsOverwrittenOnlyWhenTheWindowAdvances : Prop :=
  ∀ (s t : State) (e : Event), s.Legal → Transition s e t → e.runTime = true →
    (t.bufLen ≠ s.bufLen ∨ t.bufData ≠ s.bufData ∨ t.bufSeq ≠ s.bufSeq) →
    (s.role = .host ∧ s.sndWait = false ∧ ∃ p, e = .payload p ∧ t.bufData = p) ∨
    (s.role = .router ∧ s.bufFull = false ∧ ∃ l bytes q p, e = .frame l bytes ∧
      validateFrame s.config bytes = .valid .data q p ∧ t.bufData = p ∧ t.bufSeq = q)

/-- R141: the host's outstanding frame, and that while the host waits neither its sequence bit nor its payload changes, so
every retransmission is the same frame. -/
def Obligations.TheOutstandingFrameIsConstantWhileWaiting : Prop :=
  ∀ (s t : State) (e : Event), s.Legal → Transition s e t → e.runTime = true → s.role = .host →
    s.sndWait = true → t.sndWait = true →
    hostFrame s = .ok (frameBytes s.config .data s.nextframetosend s.bufData) ∧
    t.nextframetosend = s.nextframetosend ∧ t.bufLen = s.bufLen ∧ t.bufData = s.bufData ∧
    hostFrame t = hostFrame s ∧
    ∀ l bytes, .send l bytes ∈ t.actions → (∃ g, e = .timer g) → hostFrame s = .ok bytes

/-- R162, R41: the router's buffered frame, and that while the buffer stays full neither its sequence bit nor its payload
changes, so every retransmission is the frame last forwarded. -/
def Obligations.TheBufferedFrameIsConstantWhileFull : Prop :=
  ∀ (s t : State) (e : Event), s.Legal → Transition s e t → e.runTime = true → s.role = .router → t.bufFull = true →
    (s.bufFull = true →
      t.bufSeq = s.bufSeq ∧ t.bufLen = s.bufLen ∧ t.bufData = s.bufData ∧
      ∀ l bytes, .send l bytes ∈ t.actions → (∃ g, e = .timer g) →
        l = s.config.routerDownLink ∧ bytes = frameBytes s.config .data s.bufSeq s.bufData) ∧
    (s.bufFull = false → .send s.config.routerDownLink (frameBytes s.config .data t.bufSeq t.bufData) ∈ t.actions)

/-- R42, R239: the router's windows stay in step unless a spurious ACK arrives, and such an ACK puts them out of step. -/
def Obligations.RouterWindowsStayInStepUnlessASpuriousAckArrives : Prop :=
  ∀ (s t : State) (e : Event), s.Legal → Transition s e t → s.windowsInStep →
    (¬ (s.booted = true ∧ spuriousAck s e) → t.windowsInStep) ∧
    (s.booted = true → spuriousAck s e → ¬ t.windowsInStep)

/-- R42: a router that a spurious ACK put out of step stays so, until BOOT or another spurious ACK: "every forwarded seq
differs from `S.ackexpected`". -/
def Obligations.ADesynchronisedRouterStaysSo : Prop :=
  ∀ (s t : State) (e : Event), s.Legal → Transition s e t → e.runTime = true → s.role = .router → ¬ spuriousAck s e →
    s.windowsApart → t.windowsApart

/-! ## The chain and its environment -/

/-- R190, R233: before any BOOT every chain is legal, whatever parameters its cores have (that two nodes may differ in
them is the model's choice, log entry 22). -/
def Obligations.PoweredOnChainsAreLegal : Prop :=
  ∀ configs : List Config, (Chain.powerOn configs).Legal

/-- R190: an environment that keeps its duties never brings a fault, and every node keeps the invariant of R41. -/
def Obligations.DutifulEnvironmentsNeverCauseAFault : Prop :=
  ∀ (c c' : Chain) (m : Move), c.Legal → c.move m = some c' → c'.Legal

/-- R147, R145: two hosts on a link that may lose, duplicate and corrupt, but never reorders. The receiver has delivered a
beginning of the payloads the sender accepted, each once and in order; and whenever the sender is IDLE, all of them, with
every sequence bit equal to their number modulo 2. That a corrupted copy is discarded is a premise (R106 gives it for single
bits). -/
def Obligations.InOrderLinksDeliverEachPayloadOnceInOrder : Prop :=
  ∀ (ca cb : Config) (a b : BootCfg) (ms : List Move) (c : Chain),
    a.role = .host → a.orig = true → b.role = .host → b.orig = false →
    neverRebooted ms → inOrder c.wire ms → corruptionDetected [ca, cb] ms →
    (Chain.powerOn [ca, cb]).run (.boot 0 a :: .boot 1 b :: ms) = some c →
    ∃ sender receiver, c.nodes = [sender, receiver] ∧
      receiver.delivered <+: offered 0 ms ∧
      (sender.core.sndWait = false →
        receiver.delivered = offered 0 ms ∧
        sender.core.ackexpected = BitVec.ofNat 1 (offered 0 ms).length ∧
        sender.core.nextframetosend = BitVec.ofNat 1 (offered 0 ms).length ∧
        receiver.core.frameexpected = BitVec.ofNat 1 (offered 0 ms).length)

/-- R124, R235: with tags held no longer than R190 allows (fewer than 2^GEN_W later starts), the expiry a core accepts is that of
the timer started last. -/
def Obligations.NoStaleExpiryIsEverAccepted : Prop :=
  ∀ (d : Node) (x : Expiry), d.Legal → x ∈ d.expiries → d.starts - x.startNo ≤ 2 ^ d.core.config.genW →
    expiryAccepted x.gen d.core = true → x.startNo + 1 = d.starts

/-- R191: while a core's timer runs, the facility holds its expiry; and once the chain is booted, the move that delivers it
exists and is accepted. -/
def Obligations.ARunningTimerAlwaysHasAnExpiryDue : Prop :=
  ∀ (c : Chain) (i : Nat) (d : Node), c.Legal → c.nodes[i]? = some d → d.core.quiescent = false →
    ∃ k x, d.expiries[k]? = some x ∧ expiryAccepted x.gen d.core = true ∧ x.cancelled = false ∧
      (c.ready = true → (c.move (.expiry i k)).isSome = true)

/-- R191: under the fairness of timers (R190) a run ends only with every node quiescent, for "a run in which some node has
`S.tmr_active` = 1 does not end" (what an infinite run and its fairness are: log entry 21). -/
def Obligations.ARunWithARunningTimerDoesNotEnd : Prop :=
  ∀ (moves : Nat → Option Move) (run : Nat → Chain) (n : Nat), IsRun moves run → (run 0).Legal → TimersFair run →
    EndsAt moves n → ∀ m, n ≤ m → (run m).quiescent = true

/-- R190: the liberties of the environment are always there. The deployment may boot any node with any configuration of its
duty; and once the chain is booted, a link may deliver any sent frame, whole or corrupted, a timer facility any expiry
held across fewer than 2^GEN_W later starts, cancelled, superseded or neither, the application any payload that is admitted, and the query may come.
Which moves the duties leave is the model's reading (log entry 15). -/
def Obligations.TheEnvironmentsLibertiesAreAdmitted : Prop :=
  ∀ (c : Chain) (i : Nat) (d : Node), c.Legal → c.nodes[i]? = some d →
    (∀ cfg, deploymentAdmits (c.deployment.set i (some cfg)) = true → (c.move (.boot i cfg)).isSome = true) ∧
    (c.ready = true →
      (c.move (.diag i)).isSome = true ∧
      (∀ k f, c.wire[k]? = some f → f.dst = i →
        (c.move (.frame k)).isSome = true ∧ ∀ b, (c.move (.corrupted k b)).isSome = true) ∧
      (∀ k x, d.expiries[k]? = some x → d.starts - x.startNo ≤ 2 ^ d.core.config.genW →
        (c.move (.expiry i k)).isSome = true) ∧
      (∀ p, d.intakeOn = true → p.length ≤ d.core.config.maxMsg → (c.move (.payload i p)).isSome = true))
end

