-- ==== Sys2Proof/Laws/Codec.lean ====
section
/-! SUPPORT. What the wire frame's fields and the checksum can do: the lemmas that ENCODE and VALIDATE rest on. -/
namespace Sys2Proof

/-! ### Bytes of a 16-bit field -/

/-- `B[i] × 256 + B[i+1]` (20_memory.md R50). -/
theorem be16_toNat (a b : Byte) : (be16 a b).toNat = a.toNat * 256 + b.toNat := by
  have h : (be16 a b).toNat = a.toNat <<< 8 ||| b.toNat := BitVec.toNat_append a b
  rw [h, ← Nat.shiftLeft_add_eq_or_of_lt b.isLt, Nat.shiftLeft_eq]

theorem hiByte_toNat (v : BitVec 16) : (hiByte v).toNat = v.toNat / 256 := by
  have := v.isLt
  simp [hiByte, BitVec.extractLsb'_toNat, Nat.shiftRight_eq_div_pow]
  omega

theorem loByte_toNat (v : BitVec 16) : (loByte v).toNat = v.toNat % 256 := by
  simp [loByte, BitVec.extractLsb'_toNat]

@[simp] theorem be16_hiByte_loByte (v : BitVec 16) : be16 (hiByte v) (loByte v) = v := by
  apply BitVec.eq_of_toNat_eq
  rw [be16_toNat, hiByte_toNat, loByte_toNat]
  omega

@[simp] theorem hiByte_be16 (a b : Byte) : hiByte (be16 a b) = a := by
  apply BitVec.eq_of_toNat_eq
  rw [hiByte_toNat, be16_toNat]
  have := b.isLt
  omega

@[simp] theorem loByte_be16 (a b : Byte) : loByte (be16 a b) = b := by
  apply BitVec.eq_of_toNat_eq
  rw [loByte_toNat, be16_toNat]
  have := b.isLt
  omega

@[simp] theorem hiByte_zero : hiByte 0#16 = 0x00#8 := by decide

@[simp] theorem loByte_zero : loByte 0#16 = 0x00#8 := by decide

/-! ### KIND and SEQ -/

@[simp] theorem kindOfCode_kindCode (k : Kind) : kindOfCode (kindCode k) = some k := by cases k <;> rfl

theorem seqBit_cases (s : SeqBit) : s = 0#1 ∨ s = 1#1 := by
  revert s; decide

@[simp] theorem seqOfCode_seqCode (s : SeqBit) : seqOfCode (seqCode s) = some s := by
  rcases seqBit_cases s with rfl | rfl <;> rfl

theorem kindOfCode_eq_some {b : Byte} {k : Kind} (h : kindOfCode b = some k) : b = kindCode k := by
  unfold kindOfCode at h
  split at h
  · cases h; assumption
  · split at h
    · cases h; assumption
    · cases h

theorem seqOfCode_eq_some {b : Byte} {s : SeqBit} (h : seqOfCode b = some s) : b = seqCode s := by
  unfold seqOfCode at h
  split at h
  · cases h; assumption
  · split at h
    · cases h; assumption
    · cases h

@[simp] theorem flipBit_flipBit (s : SeqBit) : flipBit (flipBit s) = s := by
  rcases seqBit_cases s with rfl | rfl <;> rfl

theorem flipBit_ne (s : SeqBit) : flipBit s ≠ s := by
  rcases seqBit_cases s with rfl | rfl <;> decide

/-- A bit that is not `s` is its flip. -/
theorem eq_flipBit_of_ne {a s : SeqBit} (h : a ≠ s) : a = flipBit s := by
  rcases seqBit_cases a with rfl | rfl <;> rcases seqBit_cases s with rfl | rfl <;> first | rfl | exact absurd rfl h

/-! ### Frames -/

@[simp] theorem frameWith_length (k q : Byte) (n c : BitVec 16) (p : Bytes) :
    (frameWith k q n c p).length = 6 + p.length := by
  simp [frameWith]; omega

@[simp] theorem frameBytes_length (cf : Config) (k : Kind) (q : SeqBit) (p : Bytes) :
    (frameBytes cf k q p).length = 6 + p.length := by
  simp [frameBytes]

@[simp] theorem frameBytes_payload (cf : Config) (k : Kind) (q : SeqBit) (p : Bytes) :
    (frameBytes cf k q p).drop 6 = p := rfl

/-- VALIDATE on a string whose header is written out. -/
theorem validateFrame_header (cf : Config) (k q l1 l0 c1 c0 : Byte) (p : Bytes) :
    validateFrame cf (k :: q :: l1 :: l0 :: c1 :: c0 :: p) =
      if be16 c1 c0 ≠ integrity cf.integrity (k :: q :: l1 :: l0 :: 0x00#8 :: 0x00#8 :: p) then .discard .checksum
      else if 6 + p.length ≠ 6 + (be16 l1 l0).toNat then .discard .length
      else validateFields cf.maxMsg k q (be16 l1 l0) p := by
  have h : (k :: q :: l1 :: l0 :: c1 :: c0 :: p).length = 6 + p.length := by simp; omega
  simp only [validateFrame, h, cf.hdrSize_eq]

/-- A string of at least six bytes has a header. -/
theorem header_of_length {b : Bytes} (h : 6 ≤ b.length) :
    ∃ k q l1 l0 c1 c0 p, b = k :: q :: l1 :: l0 :: c1 :: c0 :: p := by
  match b, h with
  | k :: q :: l1 :: l0 :: c1 :: c0 :: p, _ => exact ⟨k, q, l1, l0, c1, c0, p, rfl⟩
  | [], h | [_], h | [_, _], h | [_, _, _], h | [_, _, _, _], h | [_, _, _, _, _], h => simp at h

/-- A string VALIDATE accepts has a header. -/
theorem header_of_valid {cf : Config} {b : Bytes} {k : Kind} {q : SeqBit} {p : Bytes}
    (h : validateFrame cf b = .valid k q p) : 6 ≤ b.length := by
  unfold validateFrame at h
  split at h
  · simp
  · cases h

/-- What the last checks of VALIDATE accept. -/
theorem validateFields_valid {m : Nat} {kb qb : Byte} {len : BitVec 16} {p p' : Bytes} {k : Kind} {q : SeqBit}
    (h : validateFields m kb qb len p = .valid k q p') :
    kb = kindCode k ∧ qb = seqCode q ∧ p' = p ∧ (k = .ack → len = 0#16) ∧ (k = .data → len.toNat ≤ m) := by
  unfold validateFields at h
  split at h
  · rename_i hk hq
    split at h
    · cases h
      exact ⟨kindOfCode_eq_some hk, seqOfCode_eq_some hq, rfl, nofun, fun _ => by assumption⟩
    · cases h
  · rename_i hk hq
    split at h
    · cases h
      exact ⟨kindOfCode_eq_some hk, seqOfCode_eq_some hq, rfl, fun _ => by assumption, nofun⟩
    · cases h
  · cases h

/-- A payload VALIDATE returns is at most MAX_MSG bytes, and empty for an ACK (30_encoding.md R73). -/
theorem validateFrame_payload {cf : Config} {b : Bytes} {k : Kind} {q : SeqBit} {p : Bytes}
    (h : validateFrame cf b = .valid k q p) : p.length ≤ cf.maxMsg ∧ (k = .ack → p = []) := by
  obtain ⟨kb, qb, l1, l0, c1, c0, p0, rfl⟩ := header_of_length (header_of_valid h)
  rw [validateFrame_header] at h
  split at h
  · cases h
  · split at h
    · cases h
    · rename_i hlen
      obtain ⟨-, -, rfl, hack, hdata⟩ := validateFields_valid h
      have hl : p.length = (be16 l1 l0).toNat := by omega
      cases k with
      | data => exact ⟨by have := hdata rfl; omega, nofun⟩
      | ack =>
        have h0 : p.length = 0 := by rw [hl, hack rfl]; rfl
        exact ⟨by omega, fun _ => List.length_eq_zero_iff.mp h0⟩

/-- The frame of a node, when another node accepts it, has the fields it was built of, whatever the parameters of the two:
KIND, SEQ and the payload are at the same place in both. -/
theorem validateFrame_frameBytes {cf cf' : Config} {k k' : Kind} {q q' : SeqBit} {p p' : Bytes}
    (h : validateFrame cf (frameBytes cf' k q p) = .valid k' q' p') : k' = k ∧ q' = q ∧ p' = p := by
  unfold frameBytes at h
  simp only [frameWith] at h
  rw [validateFrame_header] at h
  split at h
  · cases h
  · split at h
    · cases h
    · obtain ⟨hk, hq, rfl, -⟩ := validateFields_valid h
      have h1 := congrArg kindOfCode hk
      have h2 := congrArg seqOfCode hq
      simp only [kindOfCode_kindCode, seqOfCode_seqCode, Option.some.injEq] at h1 h2
      exact ⟨h1.symm, h2.symm, rfl⟩

/-! ### The checksum is linear over XOR -/

theorem crcShift_xor (g a b : BitVec 16) : crcShift g (a ^^^ b) = crcShift g a ^^^ crcShift g b := by
  have left_comm : ∀ x y z : BitVec 16, x ^^^ (y ^^^ z) = y ^^^ (x ^^^ z) := fun x y z => by
    rw [← BitVec.xor_assoc, BitVec.xor_comm x y, BitVec.xor_assoc]
  simp only [crcShift, BitVec.msb_xor, BitVec.shiftLeft_xor_distrib]
  cases a.msb <;> cases b.msb <;> simp [left_comm, BitVec.xor_comm]

/-- The shift loses nothing: only zero is shifted to zero, the constant term of the polynomial being 1. -/
theorem crcShift_ne_zero {g a : BitVec 16} (hg : g.getLsbD 0 = true) (h : a ≠ 0#16) : crcShift g a ≠ 0#16 := by
  intro hz
  apply h
  unfold crcShift at hz
  split at hz
  · have := congrArg (fun v => v.getLsbD 0) hz
    simp at this hg
    simp [this] at hg
  · rename_i hm
    have hlt : a.toNat < 2 ^ 15 := by
      have := BitVec.msb_eq_false_iff_two_mul_lt (x := a) |>.mp (by simpa using hm)
      omega
    have h2 := congrArg BitVec.toNat hz
    simp [BitVec.toNat_shiftLeft, Nat.shiftLeft_eq] at h2
    apply BitVec.eq_of_toNat_eq
    simp
    omega

theorem crcByte_xor (g c d : BitVec 16) (a b : Byte) :
    crcByte g (c ^^^ d) (a ^^^ b) = crcByte g c a ^^^ crcByte g d b := by
  have h : (c ^^^ d) ^^^ ((a ^^^ b).setWidth 16 <<< 8) =
      (c ^^^ (a.setWidth 16 <<< 8)) ^^^ (d ^^^ (b.setWidth 16 <<< 8)) := by
    rw [BitVec.setWidth_xor, BitVec.shiftLeft_xor_distrib]
    ac_rfl
  unfold crcByte
  rw [h]
  simp only [crcShift_xor]

/-- The eight shifts of a byte lose nothing. -/
theorem crcByte_ne_zero_of_xor {g d : BitVec 16} {e : Byte} (hg : g.getLsbD 0 = true)
    (h : d ^^^ (e.setWidth 16 <<< 8) ≠ 0#16) : crcByte g d e ≠ 0#16 := by
  unfold crcByte
  iterate 8 apply crcShift_ne_zero hg
  exact h

/-- A difference in the register, with equal bytes, stays a difference. -/
theorem crcByte_ne_zero {g d : BitVec 16} (hg : g.getLsbD 0 = true) (h : d ≠ 0#16) : crcByte g d 0x00#8 ≠ 0#16 :=
  crcByte_ne_zero_of_xor hg (by simpa using h)

/-- A difference in the byte, with equal registers, becomes a difference. -/
theorem crcByte_byte_ne_zero {g : BitVec 16} {e : Byte} (hg : g.getLsbD 0 = true) (h : e ≠ 0x00#8) :
    crcByte g 0#16 e ≠ 0#16 := by
  apply crcByte_ne_zero_of_xor hg
  intro hz
  apply h
  have h2 := congrArg BitVec.toNat hz
  have := e.isLt
  simp [BitVec.toNat_shiftLeft, Nat.shiftLeft_eq] at h2
  apply BitVec.eq_of_toNat_eq
  simp
  omega

/-- Registers that differ stay different over any bytes. -/
theorem crc_foldl_ne {g : BitVec 16} (hg : g.getLsbD 0 = true) (p : Bytes) {c d : BitVec 16} (h : c ≠ d) :
    p.foldl (crcByte g) c ≠ p.foldl (crcByte g) d := by
  induction p generalizing c d with
  | nil => simpa using h
  | cons b p ih =>
    apply ih
    intro heq
    have hx : c ^^^ d ≠ 0#16 := fun hz => h (by simpa using hz)
    apply crcByte_ne_zero hg hx
    have := crcByte_xor g c d b b
    rw [BitVec.xor_self] at this
    rw [this, heq, BitVec.xor_self]

/-- Reflecting loses nothing. -/
theorem reflectIf_injective {n : Nat} {r : Bool} {v w : BitVec n} (h : reflectIf r v = reflectIf r w) : v = w := by
  cases r with
  | false => exact h
  | true => simpa [reflectIf, BitVec.reverse_reverse_eq] using congrArg BitVec.reverse h

/-- Two byte strings that differ in one byte have different checksums. -/
theorem integrity_append_ne (f : IntegrityParams) (p q : Bytes) {a b : Byte} (h : a ≠ b) :
    integrity f (p ++ a :: q) ≠ integrity f (p ++ b :: q) := by
  intro heq
  simp only [integrity, BitVec.xor_left_inj] at heq
  replace heq := reflectIf_injective heq
  simp only [List.map_append, List.map_cons, List.foldl_append, List.foldl_cons] at heq
  refine crc_foldl_ne f.polynomial_odd _ ?_ heq
  generalize List.foldl _ _ _ = c
  intro heq
  have hx : reflectIf f.inputReflected a ^^^ reflectIf f.inputReflected b ≠ 0x00#8 := fun hz =>
    h (reflectIf_injective (by simpa using hz))
  apply crcByte_byte_ne_zero f.polynomial_odd hx
  have := crcByte_xor f.polynomial c c (reflectIf f.inputReflected a) (reflectIf f.inputReflected b)
  rw [BitVec.xor_self] at this
  rw [this, heq, BitVec.xor_self]

/-! ### The operation key -/

/-- A key with a row decodes to the operation of that row, with the operands that came beside it. -/
theorem decode_of_op {k : Key} {op : Op} (h : opOfKey k = some op) (o : Operands) :
    decode { key := k, operands := o } = .ok (instrOf op o) := by
  simp only [decode, h]

/-- A key with no row is rejected by the name of its reason. -/
theorem decode_of_none {k : Key} (h : opOfKey k = none) (o : Operands) :
    decode { key := k, operands := o } = .error (reservedReason k) := by
  simp only [decode, h]

end Sys2Proof
end

