-- ==== Sys2Proof/Laws/State.lean ====
section
/-! SUPPORT. One lemma per field of State and per update of it, each true by unfolding the update once. -/
namespace Sys2Proof.Machine

/-! ### emit -/

@[simp] theorem emit_booted (a : Action) (s : State) : (emit a s).booted = s.booted := rfl
@[simp] theorem emit_role (a : Action) (s : State) : (emit a s).role = s.role := rfl
@[simp] theorem emit_orig (a : Action) (s : State) : (emit a s).orig = s.orig := rfl
@[simp] theorem emit_nodeId (a : Action) (s : State) : (emit a s).nodeId = s.nodeId := rfl
@[simp] theorem emit_ackexpected (a : Action) (s : State) : (emit a s).ackexpected = s.ackexpected := rfl
@[simp] theorem emit_nextframetosend (a : Action) (s : State) : (emit a s).nextframetosend = s.nextframetosend := rfl
@[simp] theorem emit_frameexpected (a : Action) (s : State) : (emit a s).frameexpected = s.frameexpected := rfl
@[simp] theorem emit_sndWait (a : Action) (s : State) : (emit a s).sndWait = s.sndWait := rfl
@[simp] theorem emit_intakeEn (a : Action) (s : State) : (emit a s).intakeEn = s.intakeEn := rfl
@[simp] theorem emit_bufFull (a : Action) (s : State) : (emit a s).bufFull = s.bufFull := rfl
@[simp] theorem emit_bufSeq (a : Action) (s : State) : (emit a s).bufSeq = s.bufSeq := rfl
@[simp] theorem emit_bufLen (a : Action) (s : State) : (emit a s).bufLen = s.bufLen := rfl
@[simp] theorem emit_bufData (a : Action) (s : State) : (emit a s).bufData = s.bufData := rfl
@[simp] theorem emit_tmrActive (a : Action) (s : State) : (emit a s).tmrActive = s.tmrActive := rfl
@[simp] theorem emit_tmrGen (a : Action) (s : State) : (emit a s).tmrGen = s.tmrGen := rfl
@[simp] theorem emit_fault (a : Action) (s : State) : (emit a s).fault = s.fault := rfl
@[simp] theorem emit_status (a : Action) (s : State) : (emit a s).status = s.status := rfl
@[simp] theorem emit_config (a : Action) (s : State) : (emit a s).config = s.config := rfl
@[simp] theorem emit_inbox (a : Action) (s : State) : (emit a s).inbox = s.inbox := rfl
@[simp] theorem emit_keyPort (a : Action) (s : State) : (emit a s).keyPort = s.keyPort := rfl
@[simp] theorem emit_actions (a : Action) (s : State) : (emit a s).actions = s.actions ++ [a] := rfl
@[simp] theorem emit_result (a : Action) (s : State) : (emit a s).result = s.result := rfl

/-! ### setStatus -/

@[simp] theorem setStatus_booted (c : Status) (s : State) : (setStatus c s).booted = s.booted := rfl
@[simp] theorem setStatus_role (c : Status) (s : State) : (setStatus c s).role = s.role := rfl
@[simp] theorem setStatus_orig (c : Status) (s : State) : (setStatus c s).orig = s.orig := rfl
@[simp] theorem setStatus_nodeId (c : Status) (s : State) : (setStatus c s).nodeId = s.nodeId := rfl
@[simp] theorem setStatus_ackexpected (c : Status) (s : State) : (setStatus c s).ackexpected = s.ackexpected := rfl
@[simp] theorem setStatus_nextframetosend (c : Status) (s : State) : (setStatus c s).nextframetosend = s.nextframetosend := rfl
@[simp] theorem setStatus_frameexpected (c : Status) (s : State) : (setStatus c s).frameexpected = s.frameexpected := rfl
@[simp] theorem setStatus_sndWait (c : Status) (s : State) : (setStatus c s).sndWait = s.sndWait := rfl
@[simp] theorem setStatus_intakeEn (c : Status) (s : State) : (setStatus c s).intakeEn = s.intakeEn := rfl
@[simp] theorem setStatus_bufFull (c : Status) (s : State) : (setStatus c s).bufFull = s.bufFull := rfl
@[simp] theorem setStatus_bufSeq (c : Status) (s : State) : (setStatus c s).bufSeq = s.bufSeq := rfl
@[simp] theorem setStatus_bufLen (c : Status) (s : State) : (setStatus c s).bufLen = s.bufLen := rfl
@[simp] theorem setStatus_bufData (c : Status) (s : State) : (setStatus c s).bufData = s.bufData := rfl
@[simp] theorem setStatus_tmrActive (c : Status) (s : State) : (setStatus c s).tmrActive = s.tmrActive := rfl
@[simp] theorem setStatus_tmrGen (c : Status) (s : State) : (setStatus c s).tmrGen = s.tmrGen := rfl
@[simp] theorem setStatus_fault (c : Status) (s : State) : (setStatus c s).fault = s.fault := rfl
@[simp] theorem setStatus_status (c : Status) (s : State) : (setStatus c s).status = c.code := rfl
@[simp] theorem setStatus_config (c : Status) (s : State) : (setStatus c s).config = s.config := rfl
@[simp] theorem setStatus_inbox (c : Status) (s : State) : (setStatus c s).inbox = s.inbox := rfl
@[simp] theorem setStatus_keyPort (c : Status) (s : State) : (setStatus c s).keyPort = s.keyPort := rfl
@[simp] theorem setStatus_actions (c : Status) (s : State) : (setStatus c s).actions = s.actions := rfl
@[simp] theorem setStatus_result (c : Status) (s : State) : (setStatus c s).result = s.result := rfl

/-! ### drop -/

@[simp] theorem drop_booted (c : Status) (s : State) : (drop c s).booted = s.booted := rfl
@[simp] theorem drop_role (c : Status) (s : State) : (drop c s).role = s.role := rfl
@[simp] theorem drop_orig (c : Status) (s : State) : (drop c s).orig = s.orig := rfl
@[simp] theorem drop_nodeId (c : Status) (s : State) : (drop c s).nodeId = s.nodeId := rfl
@[simp] theorem drop_ackexpected (c : Status) (s : State) : (drop c s).ackexpected = s.ackexpected := rfl
@[simp] theorem drop_nextframetosend (c : Status) (s : State) : (drop c s).nextframetosend = s.nextframetosend := rfl
@[simp] theorem drop_frameexpected (c : Status) (s : State) : (drop c s).frameexpected = s.frameexpected := rfl
@[simp] theorem drop_sndWait (c : Status) (s : State) : (drop c s).sndWait = s.sndWait := rfl
@[simp] theorem drop_intakeEn (c : Status) (s : State) : (drop c s).intakeEn = s.intakeEn := rfl
@[simp] theorem drop_bufFull (c : Status) (s : State) : (drop c s).bufFull = s.bufFull := rfl
@[simp] theorem drop_bufSeq (c : Status) (s : State) : (drop c s).bufSeq = s.bufSeq := rfl
@[simp] theorem drop_bufLen (c : Status) (s : State) : (drop c s).bufLen = s.bufLen := rfl
@[simp] theorem drop_bufData (c : Status) (s : State) : (drop c s).bufData = s.bufData := rfl
@[simp] theorem drop_tmrActive (c : Status) (s : State) : (drop c s).tmrActive = s.tmrActive := rfl
@[simp] theorem drop_tmrGen (c : Status) (s : State) : (drop c s).tmrGen = s.tmrGen := rfl
@[simp] theorem drop_fault (c : Status) (s : State) : (drop c s).fault = s.fault := rfl
@[simp] theorem drop_status (c : Status) (s : State) : (drop c s).status = c.code := rfl
@[simp] theorem drop_config (c : Status) (s : State) : (drop c s).config = s.config := rfl
@[simp] theorem drop_inbox (c : Status) (s : State) : (drop c s).inbox = s.inbox := rfl
@[simp] theorem drop_keyPort (c : Status) (s : State) : (drop c s).keyPort = s.keyPort := rfl
@[simp] theorem drop_actions (c : Status) (s : State) : (drop c s).actions = s.actions := rfl
@[simp] theorem drop_result (c : Status) (s : State) : (drop c s).result = s.result := rfl

/-! ### raiseFault -/

@[simp] theorem raiseFault_booted (f : FaultBit) (s : State) : (raiseFault f s).booted = s.booted := rfl
@[simp] theorem raiseFault_role (f : FaultBit) (s : State) : (raiseFault f s).role = s.role := rfl
@[simp] theorem raiseFault_orig (f : FaultBit) (s : State) : (raiseFault f s).orig = s.orig := rfl
@[simp] theorem raiseFault_nodeId (f : FaultBit) (s : State) : (raiseFault f s).nodeId = s.nodeId := rfl
@[simp] theorem raiseFault_ackexpected (f : FaultBit) (s : State) : (raiseFault f s).ackexpected = s.ackexpected := rfl
@[simp] theorem raiseFault_nextframetosend (f : FaultBit) (s : State) : (raiseFault f s).nextframetosend = s.nextframetosend := rfl
@[simp] theorem raiseFault_frameexpected (f : FaultBit) (s : State) : (raiseFault f s).frameexpected = s.frameexpected := rfl
@[simp] theorem raiseFault_sndWait (f : FaultBit) (s : State) : (raiseFault f s).sndWait = s.sndWait := rfl
@[simp] theorem raiseFault_intakeEn (f : FaultBit) (s : State) : (raiseFault f s).intakeEn = s.intakeEn := rfl
@[simp] theorem raiseFault_bufFull (f : FaultBit) (s : State) : (raiseFault f s).bufFull = s.bufFull := rfl
@[simp] theorem raiseFault_bufSeq (f : FaultBit) (s : State) : (raiseFault f s).bufSeq = s.bufSeq := rfl
@[simp] theorem raiseFault_bufLen (f : FaultBit) (s : State) : (raiseFault f s).bufLen = s.bufLen := rfl
@[simp] theorem raiseFault_bufData (f : FaultBit) (s : State) : (raiseFault f s).bufData = s.bufData := rfl
@[simp] theorem raiseFault_tmrActive (f : FaultBit) (s : State) : (raiseFault f s).tmrActive = s.tmrActive := rfl
@[simp] theorem raiseFault_tmrGen (f : FaultBit) (s : State) : (raiseFault f s).tmrGen = s.tmrGen := rfl
@[simp] theorem raiseFault_fault (f : FaultBit) (s : State) : (raiseFault f s).fault = s.fault ||| f.mask := rfl
@[simp] theorem raiseFault_status (f : FaultBit) (s : State) : (raiseFault f s).status = f.status.code := rfl
@[simp] theorem raiseFault_config (f : FaultBit) (s : State) : (raiseFault f s).config = s.config := rfl
@[simp] theorem raiseFault_inbox (f : FaultBit) (s : State) : (raiseFault f s).inbox = s.inbox := rfl
@[simp] theorem raiseFault_keyPort (f : FaultBit) (s : State) : (raiseFault f s).keyPort = s.keyPort := rfl
@[simp] theorem raiseFault_actions (f : FaultBit) (s : State) : (raiseFault f s).actions = s.actions := rfl
@[simp] theorem raiseFault_result (f : FaultBit) (s : State) : (raiseFault f s).result = s.result := rfl

/-! ### writeBuffer -/

@[simp] theorem writeBuffer_booted (p : Bytes) (s : State) : (writeBuffer p s).booted = s.booted := rfl
@[simp] theorem writeBuffer_role (p : Bytes) (s : State) : (writeBuffer p s).role = s.role := rfl
@[simp] theorem writeBuffer_orig (p : Bytes) (s : State) : (writeBuffer p s).orig = s.orig := rfl
@[simp] theorem writeBuffer_nodeId (p : Bytes) (s : State) : (writeBuffer p s).nodeId = s.nodeId := rfl
@[simp] theorem writeBuffer_ackexpected (p : Bytes) (s : State) : (writeBuffer p s).ackexpected = s.ackexpected := rfl
@[simp] theorem writeBuffer_nextframetosend (p : Bytes) (s : State) : (writeBuffer p s).nextframetosend = s.nextframetosend := rfl
@[simp] theorem writeBuffer_frameexpected (p : Bytes) (s : State) : (writeBuffer p s).frameexpected = s.frameexpected := rfl
@[simp] theorem writeBuffer_sndWait (p : Bytes) (s : State) : (writeBuffer p s).sndWait = s.sndWait := rfl
@[simp] theorem writeBuffer_intakeEn (p : Bytes) (s : State) : (writeBuffer p s).intakeEn = s.intakeEn := rfl
@[simp] theorem writeBuffer_bufFull (p : Bytes) (s : State) : (writeBuffer p s).bufFull = s.bufFull := rfl
@[simp] theorem writeBuffer_bufSeq (p : Bytes) (s : State) : (writeBuffer p s).bufSeq = s.bufSeq := rfl
@[simp] theorem writeBuffer_bufLen (p : Bytes) (s : State) : (writeBuffer p s).bufLen = BitVec.ofNat 16 p.length := rfl
@[simp] theorem writeBuffer_bufData (p : Bytes) (s : State) : (writeBuffer p s).bufData = p := rfl
@[simp] theorem writeBuffer_tmrActive (p : Bytes) (s : State) : (writeBuffer p s).tmrActive = s.tmrActive := rfl
@[simp] theorem writeBuffer_tmrGen (p : Bytes) (s : State) : (writeBuffer p s).tmrGen = s.tmrGen := rfl
@[simp] theorem writeBuffer_fault (p : Bytes) (s : State) : (writeBuffer p s).fault = s.fault := rfl
@[simp] theorem writeBuffer_status (p : Bytes) (s : State) : (writeBuffer p s).status = s.status := rfl
@[simp] theorem writeBuffer_config (p : Bytes) (s : State) : (writeBuffer p s).config = s.config := rfl
@[simp] theorem writeBuffer_inbox (p : Bytes) (s : State) : (writeBuffer p s).inbox = s.inbox := rfl
@[simp] theorem writeBuffer_keyPort (p : Bytes) (s : State) : (writeBuffer p s).keyPort = s.keyPort := rfl
@[simp] theorem writeBuffer_actions (p : Bytes) (s : State) : (writeBuffer p s).actions = s.actions := rfl
@[simp] theorem writeBuffer_result (p : Bytes) (s : State) : (writeBuffer p s).result = s.result := rfl

/-! ### timerStart -/

@[simp] theorem timerStart_booted (l : Link) (n : Nat) (s : State) : (timerStart l n s).booted = s.booted := rfl
@[simp] theorem timerStart_role (l : Link) (n : Nat) (s : State) : (timerStart l n s).role = s.role := rfl
@[simp] theorem timerStart_orig (l : Link) (n : Nat) (s : State) : (timerStart l n s).orig = s.orig := rfl
@[simp] theorem timerStart_nodeId (l : Link) (n : Nat) (s : State) : (timerStart l n s).nodeId = s.nodeId := rfl
@[simp] theorem timerStart_ackexpected (l : Link) (n : Nat) (s : State) : (timerStart l n s).ackexpected = s.ackexpected := rfl
@[simp] theorem timerStart_nextframetosend (l : Link) (n : Nat) (s : State) : (timerStart l n s).nextframetosend = s.nextframetosend := rfl
@[simp] theorem timerStart_frameexpected (l : Link) (n : Nat) (s : State) : (timerStart l n s).frameexpected = s.frameexpected := rfl
@[simp] theorem timerStart_sndWait (l : Link) (n : Nat) (s : State) : (timerStart l n s).sndWait = s.sndWait := rfl
@[simp] theorem timerStart_intakeEn (l : Link) (n : Nat) (s : State) : (timerStart l n s).intakeEn = s.intakeEn := rfl
@[simp] theorem timerStart_bufFull (l : Link) (n : Nat) (s : State) : (timerStart l n s).bufFull = s.bufFull := rfl
@[simp] theorem timerStart_bufSeq (l : Link) (n : Nat) (s : State) : (timerStart l n s).bufSeq = s.bufSeq := rfl
@[simp] theorem timerStart_bufLen (l : Link) (n : Nat) (s : State) : (timerStart l n s).bufLen = s.bufLen := rfl
@[simp] theorem timerStart_bufData (l : Link) (n : Nat) (s : State) : (timerStart l n s).bufData = s.bufData := rfl
@[simp] theorem timerStart_tmrActive (l : Link) (n : Nat) (s : State) : (timerStart l n s).tmrActive = true := rfl
@[simp] theorem timerStart_tmrGen (l : Link) (n : Nat) (s : State) : (timerStart l n s).tmrGen = nextGen s.config s.tmrGen := rfl
@[simp] theorem timerStart_fault (l : Link) (n : Nat) (s : State) : (timerStart l n s).fault = s.fault := rfl
@[simp] theorem timerStart_status (l : Link) (n : Nat) (s : State) : (timerStart l n s).status = s.status := rfl
@[simp] theorem timerStart_config (l : Link) (n : Nat) (s : State) : (timerStart l n s).config = s.config := rfl
@[simp] theorem timerStart_inbox (l : Link) (n : Nat) (s : State) : (timerStart l n s).inbox = s.inbox := rfl
@[simp] theorem timerStart_keyPort (l : Link) (n : Nat) (s : State) : (timerStart l n s).keyPort = s.keyPort := rfl
@[simp] theorem timerStart_actions (l : Link) (n : Nat) (s : State) : (timerStart l n s).actions = s.actions ++ cancelActions s ++ [.tstart (nextGen s.config s.tmrGen) (timeoutUs s.config l n)] := rfl
@[simp] theorem timerStart_result (l : Link) (n : Nat) (s : State) : (timerStart l n s).result = s.result := rfl

/-! ### timerCancel -/

@[simp] theorem timerCancel_booted (s : State) : (timerCancel s).booted = s.booted := rfl
@[simp] theorem timerCancel_role (s : State) : (timerCancel s).role = s.role := rfl
@[simp] theorem timerCancel_orig (s : State) : (timerCancel s).orig = s.orig := rfl
@[simp] theorem timerCancel_nodeId (s : State) : (timerCancel s).nodeId = s.nodeId := rfl
@[simp] theorem timerCancel_ackexpected (s : State) : (timerCancel s).ackexpected = s.ackexpected := rfl
@[simp] theorem timerCancel_nextframetosend (s : State) : (timerCancel s).nextframetosend = s.nextframetosend := rfl
@[simp] theorem timerCancel_frameexpected (s : State) : (timerCancel s).frameexpected = s.frameexpected := rfl
@[simp] theorem timerCancel_sndWait (s : State) : (timerCancel s).sndWait = s.sndWait := rfl
@[simp] theorem timerCancel_intakeEn (s : State) : (timerCancel s).intakeEn = s.intakeEn := rfl
@[simp] theorem timerCancel_bufFull (s : State) : (timerCancel s).bufFull = s.bufFull := rfl
@[simp] theorem timerCancel_bufSeq (s : State) : (timerCancel s).bufSeq = s.bufSeq := rfl
@[simp] theorem timerCancel_bufLen (s : State) : (timerCancel s).bufLen = s.bufLen := rfl
@[simp] theorem timerCancel_bufData (s : State) : (timerCancel s).bufData = s.bufData := rfl
@[simp] theorem timerCancel_tmrActive (s : State) : (timerCancel s).tmrActive = false := rfl
@[simp] theorem timerCancel_tmrGen (s : State) : (timerCancel s).tmrGen = s.tmrGen := rfl
@[simp] theorem timerCancel_fault (s : State) : (timerCancel s).fault = s.fault := rfl
@[simp] theorem timerCancel_status (s : State) : (timerCancel s).status = s.status := rfl
@[simp] theorem timerCancel_config (s : State) : (timerCancel s).config = s.config := rfl
@[simp] theorem timerCancel_inbox (s : State) : (timerCancel s).inbox = s.inbox := rfl
@[simp] theorem timerCancel_keyPort (s : State) : (timerCancel s).keyPort = s.keyPort := rfl
@[simp] theorem timerCancel_actions (s : State) : (timerCancel s).actions = s.actions ++ cancelActions s := rfl
@[simp] theorem timerCancel_result (s : State) : (timerCancel s).result = s.result := rfl

/-! ### timerFired -/

@[simp] theorem timerFired_booted (s : State) : (timerFired s).booted = s.booted := rfl
@[simp] theorem timerFired_role (s : State) : (timerFired s).role = s.role := rfl
@[simp] theorem timerFired_orig (s : State) : (timerFired s).orig = s.orig := rfl
@[simp] theorem timerFired_nodeId (s : State) : (timerFired s).nodeId = s.nodeId := rfl
@[simp] theorem timerFired_ackexpected (s : State) : (timerFired s).ackexpected = s.ackexpected := rfl
@[simp] theorem timerFired_nextframetosend (s : State) : (timerFired s).nextframetosend = s.nextframetosend := rfl
@[simp] theorem timerFired_frameexpected (s : State) : (timerFired s).frameexpected = s.frameexpected := rfl
@[simp] theorem timerFired_sndWait (s : State) : (timerFired s).sndWait = s.sndWait := rfl
@[simp] theorem timerFired_intakeEn (s : State) : (timerFired s).intakeEn = s.intakeEn := rfl
@[simp] theorem timerFired_bufFull (s : State) : (timerFired s).bufFull = s.bufFull := rfl
@[simp] theorem timerFired_bufSeq (s : State) : (timerFired s).bufSeq = s.bufSeq := rfl
@[simp] theorem timerFired_bufLen (s : State) : (timerFired s).bufLen = s.bufLen := rfl
@[simp] theorem timerFired_bufData (s : State) : (timerFired s).bufData = s.bufData := rfl
@[simp] theorem timerFired_tmrActive (s : State) : (timerFired s).tmrActive = false := rfl
@[simp] theorem timerFired_tmrGen (s : State) : (timerFired s).tmrGen = s.tmrGen := rfl
@[simp] theorem timerFired_fault (s : State) : (timerFired s).fault = s.fault := rfl
@[simp] theorem timerFired_status (s : State) : (timerFired s).status = s.status := rfl
@[simp] theorem timerFired_config (s : State) : (timerFired s).config = s.config := rfl
@[simp] theorem timerFired_inbox (s : State) : (timerFired s).inbox = s.inbox := rfl
@[simp] theorem timerFired_keyPort (s : State) : (timerFired s).keyPort = s.keyPort := rfl
@[simp] theorem timerFired_actions (s : State) : (timerFired s).actions = s.actions := rfl
@[simp] theorem timerFired_result (s : State) : (timerFired s).result = s.result := rfl

/-! ### sendTimed -/

@[simp] theorem sendTimed_booted (l : Link) (b : Bytes) (s : State) : (sendTimed l b s).booted = s.booted := rfl
@[simp] theorem sendTimed_role (l : Link) (b : Bytes) (s : State) : (sendTimed l b s).role = s.role := rfl
@[simp] theorem sendTimed_orig (l : Link) (b : Bytes) (s : State) : (sendTimed l b s).orig = s.orig := rfl
@[simp] theorem sendTimed_nodeId (l : Link) (b : Bytes) (s : State) : (sendTimed l b s).nodeId = s.nodeId := rfl
@[simp] theorem sendTimed_ackexpected (l : Link) (b : Bytes) (s : State) : (sendTimed l b s).ackexpected = s.ackexpected := rfl
@[simp] theorem sendTimed_nextframetosend (l : Link) (b : Bytes) (s : State) : (sendTimed l b s).nextframetosend = s.nextframetosend := rfl
@[simp] theorem sendTimed_frameexpected (l : Link) (b : Bytes) (s : State) : (sendTimed l b s).frameexpected = s.frameexpected := rfl
@[simp] theorem sendTimed_sndWait (l : Link) (b : Bytes) (s : State) : (sendTimed l b s).sndWait = s.sndWait := rfl
@[simp] theorem sendTimed_intakeEn (l : Link) (b : Bytes) (s : State) : (sendTimed l b s).intakeEn = s.intakeEn := rfl
@[simp] theorem sendTimed_bufFull (l : Link) (b : Bytes) (s : State) : (sendTimed l b s).bufFull = s.bufFull := rfl
@[simp] theorem sendTimed_bufSeq (l : Link) (b : Bytes) (s : State) : (sendTimed l b s).bufSeq = s.bufSeq := rfl
@[simp] theorem sendTimed_bufLen (l : Link) (b : Bytes) (s : State) : (sendTimed l b s).bufLen = s.bufLen := rfl
@[simp] theorem sendTimed_bufData (l : Link) (b : Bytes) (s : State) : (sendTimed l b s).bufData = s.bufData := rfl
@[simp] theorem sendTimed_tmrActive (l : Link) (b : Bytes) (s : State) : (sendTimed l b s).tmrActive = true := rfl
@[simp] theorem sendTimed_tmrGen (l : Link) (b : Bytes) (s : State) : (sendTimed l b s).tmrGen = nextGen s.config s.tmrGen := rfl
@[simp] theorem sendTimed_fault (l : Link) (b : Bytes) (s : State) : (sendTimed l b s).fault = s.fault := rfl
@[simp] theorem sendTimed_status (l : Link) (b : Bytes) (s : State) : (sendTimed l b s).status = s.status := rfl
@[simp] theorem sendTimed_config (l : Link) (b : Bytes) (s : State) : (sendTimed l b s).config = s.config := rfl
@[simp] theorem sendTimed_inbox (l : Link) (b : Bytes) (s : State) : (sendTimed l b s).inbox = s.inbox := rfl
@[simp] theorem sendTimed_keyPort (l : Link) (b : Bytes) (s : State) : (sendTimed l b s).keyPort = s.keyPort := rfl
@[simp] theorem sendTimed_actions (l : Link) (b : Bytes) (s : State) : (sendTimed l b s).actions = s.actions ++ [.send l b] ++ cancelActions s ++ [.tstart (nextGen s.config s.tmrGen) (timeoutUs s.config l b.length)] := rfl
@[simp] theorem sendTimed_result (l : Link) (b : Bytes) (s : State) : (sendTimed l b s).result = s.result := rfl

/-! ### beginTransition -/

@[simp] theorem beginTransition_booted (s : State) : (s.beginTransition).booted = s.booted := rfl
@[simp] theorem beginTransition_role (s : State) : (s.beginTransition).role = s.role := rfl
@[simp] theorem beginTransition_orig (s : State) : (s.beginTransition).orig = s.orig := rfl
@[simp] theorem beginTransition_nodeId (s : State) : (s.beginTransition).nodeId = s.nodeId := rfl
@[simp] theorem beginTransition_ackexpected (s : State) : (s.beginTransition).ackexpected = s.ackexpected := rfl
@[simp] theorem beginTransition_nextframetosend (s : State) : (s.beginTransition).nextframetosend = s.nextframetosend := rfl
@[simp] theorem beginTransition_frameexpected (s : State) : (s.beginTransition).frameexpected = s.frameexpected := rfl
@[simp] theorem beginTransition_sndWait (s : State) : (s.beginTransition).sndWait = s.sndWait := rfl
@[simp] theorem beginTransition_intakeEn (s : State) : (s.beginTransition).intakeEn = s.intakeEn := rfl
@[simp] theorem beginTransition_bufFull (s : State) : (s.beginTransition).bufFull = s.bufFull := rfl
@[simp] theorem beginTransition_bufSeq (s : State) : (s.beginTransition).bufSeq = s.bufSeq := rfl
@[simp] theorem beginTransition_bufLen (s : State) : (s.beginTransition).bufLen = s.bufLen := rfl
@[simp] theorem beginTransition_bufData (s : State) : (s.beginTransition).bufData = s.bufData := rfl
@[simp] theorem beginTransition_tmrActive (s : State) : (s.beginTransition).tmrActive = s.tmrActive := rfl
@[simp] theorem beginTransition_tmrGen (s : State) : (s.beginTransition).tmrGen = s.tmrGen := rfl
@[simp] theorem beginTransition_fault (s : State) : (s.beginTransition).fault = s.fault := rfl
@[simp] theorem beginTransition_status (s : State) : (s.beginTransition).status = s.status := rfl
@[simp] theorem beginTransition_config (s : State) : (s.beginTransition).config = s.config := rfl
@[simp] theorem beginTransition_inbox (s : State) : (s.beginTransition).inbox = s.inbox := rfl
@[simp] theorem beginTransition_keyPort (s : State) : (s.beginTransition).keyPort = s.keyPort := rfl
@[simp] theorem beginTransition_actions (s : State) : (s.beginTransition).actions = [] := rfl
@[simp] theorem beginTransition_result (s : State) : (s.beginTransition).result = none := rfl

/-! ### takeEvent -/

@[simp] theorem takeEvent_booted (rest : List Event) (s : State) : (s.takeEvent rest).booted = s.booted := rfl
@[simp] theorem takeEvent_role (rest : List Event) (s : State) : (s.takeEvent rest).role = s.role := rfl
@[simp] theorem takeEvent_orig (rest : List Event) (s : State) : (s.takeEvent rest).orig = s.orig := rfl
@[simp] theorem takeEvent_nodeId (rest : List Event) (s : State) : (s.takeEvent rest).nodeId = s.nodeId := rfl
@[simp] theorem takeEvent_ackexpected (rest : List Event) (s : State) : (s.takeEvent rest).ackexpected = s.ackexpected := rfl
@[simp] theorem takeEvent_nextframetosend (rest : List Event) (s : State) : (s.takeEvent rest).nextframetosend = s.nextframetosend := rfl
@[simp] theorem takeEvent_frameexpected (rest : List Event) (s : State) : (s.takeEvent rest).frameexpected = s.frameexpected := rfl
@[simp] theorem takeEvent_sndWait (rest : List Event) (s : State) : (s.takeEvent rest).sndWait = s.sndWait := rfl
@[simp] theorem takeEvent_intakeEn (rest : List Event) (s : State) : (s.takeEvent rest).intakeEn = s.intakeEn := rfl
@[simp] theorem takeEvent_bufFull (rest : List Event) (s : State) : (s.takeEvent rest).bufFull = s.bufFull := rfl
@[simp] theorem takeEvent_bufSeq (rest : List Event) (s : State) : (s.takeEvent rest).bufSeq = s.bufSeq := rfl
@[simp] theorem takeEvent_bufLen (rest : List Event) (s : State) : (s.takeEvent rest).bufLen = s.bufLen := rfl
@[simp] theorem takeEvent_bufData (rest : List Event) (s : State) : (s.takeEvent rest).bufData = s.bufData := rfl
@[simp] theorem takeEvent_tmrActive (rest : List Event) (s : State) : (s.takeEvent rest).tmrActive = s.tmrActive := rfl
@[simp] theorem takeEvent_tmrGen (rest : List Event) (s : State) : (s.takeEvent rest).tmrGen = s.tmrGen := rfl
@[simp] theorem takeEvent_fault (rest : List Event) (s : State) : (s.takeEvent rest).fault = s.fault := rfl
@[simp] theorem takeEvent_status (rest : List Event) (s : State) : (s.takeEvent rest).status = s.status := rfl
@[simp] theorem takeEvent_config (rest : List Event) (s : State) : (s.takeEvent rest).config = s.config := rfl
@[simp] theorem takeEvent_inbox (rest : List Event) (s : State) : (s.takeEvent rest).inbox = rest := rfl
@[simp] theorem takeEvent_keyPort (rest : List Event) (s : State) : (s.takeEvent rest).keyPort = s.keyPort := rfl
@[simp] theorem takeEvent_actions (rest : List Event) (s : State) : (s.takeEvent rest).actions = [] := rfl
@[simp] theorem takeEvent_result (rest : List Event) (s : State) : (s.takeEvent rest).result = none := rfl

/-! ### takeKey -/

@[simp] theorem takeKey_booted (s : State) : (s.takeKey).booted = s.booted := rfl
@[simp] theorem takeKey_role (s : State) : (s.takeKey).role = s.role := rfl
@[simp] theorem takeKey_orig (s : State) : (s.takeKey).orig = s.orig := rfl
@[simp] theorem takeKey_nodeId (s : State) : (s.takeKey).nodeId = s.nodeId := rfl
@[simp] theorem takeKey_ackexpected (s : State) : (s.takeKey).ackexpected = s.ackexpected := rfl
@[simp] theorem takeKey_nextframetosend (s : State) : (s.takeKey).nextframetosend = s.nextframetosend := rfl
@[simp] theorem takeKey_frameexpected (s : State) : (s.takeKey).frameexpected = s.frameexpected := rfl
@[simp] theorem takeKey_sndWait (s : State) : (s.takeKey).sndWait = s.sndWait := rfl
@[simp] theorem takeKey_intakeEn (s : State) : (s.takeKey).intakeEn = s.intakeEn := rfl
@[simp] theorem takeKey_bufFull (s : State) : (s.takeKey).bufFull = s.bufFull := rfl
@[simp] theorem takeKey_bufSeq (s : State) : (s.takeKey).bufSeq = s.bufSeq := rfl
@[simp] theorem takeKey_bufLen (s : State) : (s.takeKey).bufLen = s.bufLen := rfl
@[simp] theorem takeKey_bufData (s : State) : (s.takeKey).bufData = s.bufData := rfl
@[simp] theorem takeKey_tmrActive (s : State) : (s.takeKey).tmrActive = s.tmrActive := rfl
@[simp] theorem takeKey_tmrGen (s : State) : (s.takeKey).tmrGen = s.tmrGen := rfl
@[simp] theorem takeKey_fault (s : State) : (s.takeKey).fault = s.fault := rfl
@[simp] theorem takeKey_status (s : State) : (s.takeKey).status = s.status := rfl
@[simp] theorem takeKey_config (s : State) : (s.takeKey).config = s.config := rfl
@[simp] theorem takeKey_inbox (s : State) : (s.takeKey).inbox = s.inbox := rfl
@[simp] theorem takeKey_keyPort (s : State) : (s.takeKey).keyPort = none := rfl
@[simp] theorem takeKey_actions (s : State) : (s.takeKey).actions = [] := rfl
@[simp] theorem takeKey_result (s : State) : (s.takeKey).result = none := rfl

end Sys2Proof.Machine
end

