-- ==== Sys2Proof/Laws/Ops.lean ====
section
/-! SUPPORT. What each shared operation can do, said once. -/
namespace Sys2Proof.Machine

/-! ### withUnit -/

@[simp] theorem withUnit_ok {α : Type} (a : α) (k : α → State) : withUnit (.ok a) k = .next (k a) := rfl

@[simp] theorem withUnit_error {α : Type} (e : Refusal) (k : α → State) : withUnit (.error e) k = .refused e := rfl

/-- A rule that goes on has the unit's value. -/
theorem withUnit_next {α : Type} {r : Except Refusal α} {k : α → State} {t : State} (h : withUnit r k = .next t) :
    ∃ a, r = .ok a ∧ t = k a := by
  cases r with
  | ok a => cases h; exact ⟨a, rfl, rfl⟩
  | error e => cases h

/-! ### The buffer -/

/-- Reading the whole buffer is always admitted. -/
@[simp] theorem readBuffer_whole (s : State) :
    readBuffer 0 s.bufLen.toNat s = .ok (s.bufData.take s.bufLen.toNat) := by
  simp [readBuffer]

theorem writeBuffer_bufferLegal {p : Bytes} {s : State} (h : p.length ≤ s.config.maxMsg) :
    (writeBuffer p s).bufferLegal := by
  have := s.config.maxMsg_le
  constructor
  · simp; omega
  · simpa using h

theorem take_of_bufferLegal {s : State} (h : s.bufferLegal) : s.bufData.take s.bufLen.toNat = s.bufData := by
  rw [← h.1, List.take_length]

/-! ### Frames -/

theorem encodeFrame_data {cf : Config} {p : Bytes} (q : SeqBit) (h : p.length ≤ cf.maxMsg) :
    encodeFrame cf .data q p = .ok (frameBytes cf .data q p) := by
  simp [encodeFrame, encodeOperandsLegal, payloadFits, h]

/-- ENCODE answers the frame of its operands or refuses. -/
theorem encodeFrame_ok {cf : Config} {k : Kind} {q : SeqBit} {p B : Bytes} (h : encodeFrame cf k q p = .ok B) :
    encodeOperandsLegal cf.maxMsg k p = true ∧ B = frameBytes cf k q p := by
  unfold encodeFrame at h
  split at h
  · cases h; exact ⟨by assumption, rfl⟩
  · cases k <;> cases h

theorem hostFrame_legal {s : State} (h : s.bufferLegal) :
    hostFrame s = .ok (frameBytes s.config .data s.nextframetosend s.bufData) := by
  unfold hostFrame
  rw [readBuffer_whole, take_of_bufferLegal h]
  exact encodeFrame_data _ h.2

theorem routerFrame_legal {s : State} (h : s.bufferLegal) :
    routerFrame s = .ok (frameBytes s.config .data s.bufSeq s.bufData) := by
  unfold routerFrame
  rw [readBuffer_whole, take_of_bufferLegal h]
  exact encodeFrame_data _ h.2

/-- A host's outgoing frame is a DATA frame of its next sequence bit. -/
theorem hostFrame_ok {s : State} {B : Bytes} (h : hostFrame s = .ok B) :
    B = frameBytes s.config .data s.nextframetosend (s.bufData.take s.bufLen.toNat) := by
  unfold hostFrame at h
  rw [readBuffer_whole] at h
  exact (encodeFrame_ok h).2

/-- The host's frame rests on its sequence bit, the buffer and the parameters. -/
theorem hostFrame_congr {s t : State} (hc : t.config = s.config) (hn : t.nextframetosend = s.nextframetosend)
    (hl : t.bufLen = s.bufLen) (hd : t.bufData = s.bufData) : hostFrame t = hostFrame s := by
  unfold hostFrame readBuffer
  rw [hc, hn, hl, hd]

/-- Whether the windows are in step rests on five fields. -/
theorem windowsInStep_congr {s t : State} (hr : t.role = s.role) (hb : t.bufFull = s.bufFull)
    (hf : t.frameexpected = s.frameexpected) (ha : t.ackexpected = s.ackexpected) (hs : t.bufSeq = s.bufSeq) :
    t.windowsInStep ↔ s.windowsInStep := by
  unfold State.windowsInStep
  rw [hr, hb, hf, ha, hs]

/-- A router's retransmitted frame is a DATA frame of the buffered sequence bit. -/
theorem routerFrame_ok {s : State} {B : Bytes} (h : routerFrame s = .ok B) :
    B = frameBytes s.config .data s.bufSeq (s.bufData.take s.bufLen.toNat) := by
  unfold routerFrame at h
  rw [readBuffer_whole] at h
  exact (encodeFrame_ok h).2

/-! ### Admission -/

/-- A payload is admitted exactly at a host with intake enabled, and at most MAX_MSG bytes. -/
theorem admission_eq_none {p : Bytes} {s : State} :
    admission p s = none ↔ s.role = .host ∧ s.intakeEn = true ∧ p.length ≤ s.config.maxMsg := by
  unfold admission
  cases hr : s.role <;> cases hi : s.intakeEn <;> simp

/-! ### The timer -/

@[simp] theorem cancelActions_inactive {s : State} (h : s.tmrActive = false) : cancelActions s = [] := by
  simp [cancelActions, h]

@[simp] theorem cancelActions_active {s : State} (h : s.tmrActive = true) : cancelActions s = [.tcancel s.tmrGen] := by
  simp [cancelActions, h]

/-- A tag is below 2^GEN_W. -/
theorem tagOf_lt (c : Config) (n : Nat) : (tagOf c n).toNat < 2 ^ c.genW := by
  have := Nat.mod_lt n (Nat.two_pow_pos c.genW)
  exact Nat.lt_of_le_of_lt (by simpa [tagOf] using Nat.mod_le _ _) this

/-- Read as a number, a tag is the number of timers started modulo 2^GEN_W. -/
theorem tagOf_toNat (c : Config) (n : Nat) : (tagOf c n).toNat = n % 2 ^ c.genW := by
  have h1 := Nat.mod_lt n (Nat.two_pow_pos c.genW)
  have h2 := Nat.pow_le_pow_right (n := 2) (by omega) c.genW_le
  simp only [tagOf, BitVec.toNat_ofNat]
  exact Nat.mod_eq_of_lt (by omega)

/-- A tag after BOOT is zero. -/
@[simp] theorem tagOf_zero (c : Config) : tagOf c 0 = 0#32 := by simp [tagOf]

/-- Two numbers have the same tag exactly if they are equal modulo 2^GEN_W. -/
theorem tagOf_inj {c : Config} {m n : Nat} : tagOf c m = tagOf c n ↔ m % 2 ^ c.genW = n % 2 ^ c.genW := by
  constructor
  · intro h; rw [← tagOf_toNat, ← tagOf_toNat, h]
  · intro h; simp only [tagOf, h]

/-- The tag after that of `n` is that of `n + 1`. -/
@[simp] theorem nextGen_tagOf (c : Config) (n : Nat) : nextGen c (tagOf c n) = tagOf c (n + 1) := by
  rw [nextGen, tagOf_inj, tagOf_toNat, Nat.mod_add_mod]

/-- Counting on from a tag is counting on from the number it is the tag of. -/
theorem tagOf_tagOf_add (c : Config) (m n : Nat) : tagOf c ((tagOf c m).toNat + n) = tagOf c (m + n) := by
  rw [tagOf_inj, tagOf_toNat, Nat.mod_add_mod]

/-- Starting a timer changes the tag. -/
theorem nextGen_ne (c : Config) (g : Gen) : nextGen c g ≠ g := by
  intro h
  have hn : (nextGen c g).toNat = (g.toNat + 1) % 2 ^ c.genW := tagOf_toNat c _
  have h1 := Nat.mod_lt (g.toNat + 1) (Nat.two_pow_pos c.genW)
  have h2 := Nat.pow_le_pow_right (n := 2) (by omega) c.genW_pos
  rw [h] at hn
  by_cases hg : g.toNat + 1 < 2 ^ c.genW
  · rw [Nat.mod_eq_of_lt hg] at hn; omega
  · have : g.toNat + 1 = 2 ^ c.genW := by omega
    rw [this, Nat.mod_self] at hn
    omega

/-- A legal tag is that of its own number. -/
theorem tagOf_of_tagLegal {s : State} (h : s.tagLegal) : tagOf s.config s.tmrGen.toNat = s.tmrGen := by
  simp [tagOf, Nat.mod_eq_of_lt h]

theorem nextGen_lt (c : Config) (g : Gen) : (nextGen c g).toNat < 2 ^ c.genW := tagOf_lt c _

theorem expiryAccepted_eq_true {g : Gen} {s : State} :
    expiryAccepted g s = true ↔ s.tmrActive = true ∧ g = s.tmrGen := by
  simp [expiryAccepted]

/-! ### Codes -/

/-- Different statuses have different codes (60_exceptions.md R200). -/
theorem Status.code_injective {a b : Status} (h : a.code = b.code) : a = b := by
  cases a <;> cases b <;> first | rfl | exact absurd h (by decide)

/-- The fault bits are among bits 3:0 (10_state.md R33). -/
theorem raiseFault_faultLegal {f : FaultBit} {s : State} (h : s.faultLegal) : (raiseFault f s).faultLegal := by
  have low : ∀ v : BitVec 8, v &&& 0xF0#8 = 0x00#8 → (v ||| f.mask) &&& 0xF0#8 = 0x00#8 := by
    cases f <;> decide
  exact low s.fault h

end Sys2Proof.Machine
end

