-- ==== Sys2Proof/Laws/Effects.lean ====
section
/-! SUPPORT. The state each rule leaves when it runs to its end, and one lemma per field of each. -/
namespace Sys2Proof.Machine

/-- The record after BOOT (10_state.md R39). -/
def bootState (cfg : BootCfg) (s : State) : State :=
  { s with
    booted := true, role := cfg.role, orig := originator cfg, nodeId := cfg.nodeId,
    ackexpected := 0#1, nextframetosend := 0#1, frameexpected := 0#1, sndWait := false,
    intakeEn := originator cfg, bufFull := false, bufSeq := 0#1, bufLen := 0#16, bufData := [],
    tmrActive := false, tmrGen := 0#32, status := Status.ok.code,
    actions := s.actions ++ cancelActions s ++ bootAnnouncement cfg }

/-- The record after an admitted H_SEND whose frame is `B` (42_host.md R140). -/
def sentState (p B : Bytes) (s : State) : State :=
  { s with
    bufLen := BitVec.ofNat 16 p.length, bufData := p, tmrGen := nextGen s.config s.tmrGen, tmrActive := true,
    sndWait := true, intakeEn := false, status := Status.ok.code,
    actions := s.actions ++ [.send s.config.hostLink B] ++ cancelActions s ++
      [.tstart (nextGen s.config s.tmrGen) (timeoutUs s.config s.config.hostLink B.length)] ++ [.intake false] }

/-- The record after a matching H_ACK (42_host.md R142). -/
def ackedState (s : State) : State :=
  { s with
    tmrActive := false, ackexpected := flipBit s.ackexpected, nextframetosend := flipBit s.nextframetosend,
    sndWait := false, intakeEn := true, status := Status.ok.code,
    actions := s.actions ++ cancelActions s ++ [.intake true] }

/-- The record after an accepted H_DATA (42_host.md R144). -/
def deliveredState (q : SeqBit) (p : Bytes) (s : State) : State :=
  { s with
    frameexpected := flipBit s.frameexpected, status := Status.ok.code,
    actions := s.actions ++ [.deliver p] ++ [.send s.config.hostLink (ackFrame s.config q)] }

/-- The record after a mismatched DATA that is acknowledged again on link `l` (42_host.md R144, 43_router.md R160). -/
def reackedState (l : Link) (q : SeqBit) (s : State) : State :=
  { s with status := Status.okReack.code, actions := s.actions ++ [.send l (ackFrame s.config q)] }

/-- The record after DIAG (44_dispatcher.md R184). -/
def diagnosedState (s : State) : State :=
  { s with status := Status.ok.code, actions := s.actions ++ [.diagtext (diagText s)] }

/-- The record after a forwarding R_DATA (43_router.md R160). -/
def forwardedState (q : SeqBit) (p B : Bytes) (s : State) : State :=
  { s with
    frameexpected := flipBit s.frameexpected, tmrGen := nextGen s.config s.tmrGen, tmrActive := true, bufFull := true,
    bufSeq := q, bufLen := BitVec.ofNat 16 p.length, bufData := p, status := Status.ok.code,
    actions := s.actions ++ [.send s.config.routerUpLink (ackFrame s.config q)] ++ [.send s.config.routerDownLink B] ++
      cancelActions s ++ [.tstart (nextGen s.config s.tmrGen) (timeoutUs s.config s.config.routerDownLink B.length)] }

/-- The record after a matching R_ACK (43_router.md R161). -/
def releasedState (s : State) : State :=
  { s with
    ackexpected := flipBit s.ackexpected, bufFull := false, tmrActive := false, status := Status.ok.code,
    actions := s.actions ++ cancelActions s }

/-- The record after a retransmission on link `l` from an accepted expiry (42_host.md R143, 43_router.md R162). -/
def retransmittedState (l : Link) (B : Bytes) (s : State) : State :=
  { s with
    tmrGen := nextGen s.config s.tmrGen, tmrActive := true, status := Status.ok.code,
    actions := s.actions ++ [.send l B] ++ [.tstart (nextGen s.config s.tmrGen) (timeoutUs s.config l B.length)] }

/-- What an accepted expiry and the retransmission after it leave. -/
theorem retransmittedState_eq (l : Link) (B : Bytes) (s : State) :
    setStatus .ok (sendTimed l B (timerFired s)) = retransmittedState l B s := by
  simp [setStatus, sendTimed, timerStart, emit, timerFired, retransmittedState, cancelActions]

/-! ### bootState -/

@[simp] theorem bootState_booted (cfg : BootCfg) (s : State) : (bootState cfg s).booted = true := rfl
@[simp] theorem bootState_role (cfg : BootCfg) (s : State) : (bootState cfg s).role = cfg.role := rfl
@[simp] theorem bootState_orig (cfg : BootCfg) (s : State) : (bootState cfg s).orig = originator cfg := rfl
@[simp] theorem bootState_nodeId (cfg : BootCfg) (s : State) : (bootState cfg s).nodeId = cfg.nodeId := rfl
@[simp] theorem bootState_ackexpected (cfg : BootCfg) (s : State) : (bootState cfg s).ackexpected = 0#1 := rfl
@[simp] theorem bootState_nextframetosend (cfg : BootCfg) (s : State) : (bootState cfg s).nextframetosend = 0#1 := rfl
@[simp] theorem bootState_frameexpected (cfg : BootCfg) (s : State) : (bootState cfg s).frameexpected = 0#1 := rfl
@[simp] theorem bootState_sndWait (cfg : BootCfg) (s : State) : (bootState cfg s).sndWait = false := rfl
@[simp] theorem bootState_intakeEn (cfg : BootCfg) (s : State) : (bootState cfg s).intakeEn = originator cfg := rfl
@[simp] theorem bootState_bufFull (cfg : BootCfg) (s : State) : (bootState cfg s).bufFull = false := rfl
@[simp] theorem bootState_bufSeq (cfg : BootCfg) (s : State) : (bootState cfg s).bufSeq = 0#1 := rfl
@[simp] theorem bootState_bufLen (cfg : BootCfg) (s : State) : (bootState cfg s).bufLen = 0#16 := rfl
@[simp] theorem bootState_bufData (cfg : BootCfg) (s : State) : (bootState cfg s).bufData = [] := rfl
@[simp] theorem bootState_tmrActive (cfg : BootCfg) (s : State) : (bootState cfg s).tmrActive = false := rfl
@[simp] theorem bootState_tmrGen (cfg : BootCfg) (s : State) : (bootState cfg s).tmrGen = 0#32 := rfl
@[simp] theorem bootState_fault (cfg : BootCfg) (s : State) : (bootState cfg s).fault = s.fault := rfl
@[simp] theorem bootState_status (cfg : BootCfg) (s : State) : (bootState cfg s).status = Status.ok.code := rfl
@[simp] theorem bootState_config (cfg : BootCfg) (s : State) : (bootState cfg s).config = s.config := rfl
@[simp] theorem bootState_inbox (cfg : BootCfg) (s : State) : (bootState cfg s).inbox = s.inbox := rfl
@[simp] theorem bootState_keyPort (cfg : BootCfg) (s : State) : (bootState cfg s).keyPort = s.keyPort := rfl
@[simp] theorem bootState_actions (cfg : BootCfg) (s : State) :
    (bootState cfg s).actions = s.actions ++ cancelActions s ++ bootAnnouncement cfg := rfl
@[simp] theorem bootState_result (cfg : BootCfg) (s : State) : (bootState cfg s).result = s.result := rfl

/-! ### sentState -/

@[simp] theorem sentState_booted (p B : Bytes) (s : State) : (sentState p B s).booted = s.booted := rfl
@[simp] theorem sentState_role (p B : Bytes) (s : State) : (sentState p B s).role = s.role := rfl
@[simp] theorem sentState_orig (p B : Bytes) (s : State) : (sentState p B s).orig = s.orig := rfl
@[simp] theorem sentState_nodeId (p B : Bytes) (s : State) : (sentState p B s).nodeId = s.nodeId := rfl
@[simp] theorem sentState_ackexpected (p B : Bytes) (s : State) : (sentState p B s).ackexpected = s.ackexpected := rfl
@[simp] theorem sentState_nextframetosend (p B : Bytes) (s : State) :
    (sentState p B s).nextframetosend = s.nextframetosend := rfl
@[simp] theorem sentState_frameexpected (p B : Bytes) (s : State) :
    (sentState p B s).frameexpected = s.frameexpected := rfl
@[simp] theorem sentState_sndWait (p B : Bytes) (s : State) : (sentState p B s).sndWait = true := rfl
@[simp] theorem sentState_intakeEn (p B : Bytes) (s : State) : (sentState p B s).intakeEn = false := rfl
@[simp] theorem sentState_bufFull (p B : Bytes) (s : State) : (sentState p B s).bufFull = s.bufFull := rfl
@[simp] theorem sentState_bufSeq (p B : Bytes) (s : State) : (sentState p B s).bufSeq = s.bufSeq := rfl
@[simp] theorem sentState_bufLen (p B : Bytes) (s : State) :
    (sentState p B s).bufLen = BitVec.ofNat 16 p.length := rfl
@[simp] theorem sentState_bufData (p B : Bytes) (s : State) : (sentState p B s).bufData = p := rfl
@[simp] theorem sentState_tmrActive (p B : Bytes) (s : State) : (sentState p B s).tmrActive = true := rfl
@[simp] theorem sentState_tmrGen (p B : Bytes) (s : State) : (sentState p B s).tmrGen = nextGen s.config s.tmrGen := rfl
@[simp] theorem sentState_fault (p B : Bytes) (s : State) : (sentState p B s).fault = s.fault := rfl
@[simp] theorem sentState_status (p B : Bytes) (s : State) : (sentState p B s).status = Status.ok.code := rfl
@[simp] theorem sentState_config (p B : Bytes) (s : State) : (sentState p B s).config = s.config := rfl
@[simp] theorem sentState_inbox (p B : Bytes) (s : State) : (sentState p B s).inbox = s.inbox := rfl
@[simp] theorem sentState_keyPort (p B : Bytes) (s : State) : (sentState p B s).keyPort = s.keyPort := rfl
@[simp] theorem sentState_actions (p B : Bytes) (s : State) :
    (sentState p B s).actions = s.actions ++ [.send s.config.hostLink B] ++ cancelActions s ++
      [.tstart (nextGen s.config s.tmrGen) (timeoutUs s.config s.config.hostLink B.length)] ++ [.intake false] := rfl
@[simp] theorem sentState_result (p B : Bytes) (s : State) : (sentState p B s).result = s.result := rfl

/-! ### ackedState -/

@[simp] theorem ackedState_booted (s : State) : (ackedState s).booted = s.booted := rfl
@[simp] theorem ackedState_role (s : State) : (ackedState s).role = s.role := rfl
@[simp] theorem ackedState_orig (s : State) : (ackedState s).orig = s.orig := rfl
@[simp] theorem ackedState_nodeId (s : State) : (ackedState s).nodeId = s.nodeId := rfl
@[simp] theorem ackedState_ackexpected (s : State) : (ackedState s).ackexpected = flipBit s.ackexpected := rfl
@[simp] theorem ackedState_nextframetosend (s : State) :
    (ackedState s).nextframetosend = flipBit s.nextframetosend := rfl
@[simp] theorem ackedState_frameexpected (s : State) : (ackedState s).frameexpected = s.frameexpected := rfl
@[simp] theorem ackedState_sndWait (s : State) : (ackedState s).sndWait = false := rfl
@[simp] theorem ackedState_intakeEn (s : State) : (ackedState s).intakeEn = true := rfl
@[simp] theorem ackedState_bufFull (s : State) : (ackedState s).bufFull = s.bufFull := rfl
@[simp] theorem ackedState_bufSeq (s : State) : (ackedState s).bufSeq = s.bufSeq := rfl
@[simp] theorem ackedState_bufLen (s : State) : (ackedState s).bufLen = s.bufLen := rfl
@[simp] theorem ackedState_bufData (s : State) : (ackedState s).bufData = s.bufData := rfl
@[simp] theorem ackedState_tmrActive (s : State) : (ackedState s).tmrActive = false := rfl
@[simp] theorem ackedState_tmrGen (s : State) : (ackedState s).tmrGen = s.tmrGen := rfl
@[simp] theorem ackedState_fault (s : State) : (ackedState s).fault = s.fault := rfl
@[simp] theorem ackedState_status (s : State) : (ackedState s).status = Status.ok.code := rfl
@[simp] theorem ackedState_config (s : State) : (ackedState s).config = s.config := rfl
@[simp] theorem ackedState_inbox (s : State) : (ackedState s).inbox = s.inbox := rfl
@[simp] theorem ackedState_keyPort (s : State) : (ackedState s).keyPort = s.keyPort := rfl
@[simp] theorem ackedState_actions (s : State) :
    (ackedState s).actions = s.actions ++ cancelActions s ++ [.intake true] := rfl
@[simp] theorem ackedState_result (s : State) : (ackedState s).result = s.result := rfl

/-! ### deliveredState -/

@[simp] theorem deliveredState_booted (q : SeqBit) (p : Bytes) (s : State) :
    (deliveredState q p s).booted = s.booted := rfl
@[simp] theorem deliveredState_role (q : SeqBit) (p : Bytes) (s : State) : (deliveredState q p s).role = s.role := rfl
@[simp] theorem deliveredState_orig (q : SeqBit) (p : Bytes) (s : State) : (deliveredState q p s).orig = s.orig := rfl
@[simp] theorem deliveredState_nodeId (q : SeqBit) (p : Bytes) (s : State) :
    (deliveredState q p s).nodeId = s.nodeId := rfl
@[simp] theorem deliveredState_ackexpected (q : SeqBit) (p : Bytes) (s : State) :
    (deliveredState q p s).ackexpected = s.ackexpected := rfl
@[simp] theorem deliveredState_nextframetosend (q : SeqBit) (p : Bytes) (s : State) :
    (deliveredState q p s).nextframetosend = s.nextframetosend := rfl
@[simp] theorem deliveredState_frameexpected (q : SeqBit) (p : Bytes) (s : State) :
    (deliveredState q p s).frameexpected = flipBit s.frameexpected := rfl
@[simp] theorem deliveredState_sndWait (q : SeqBit) (p : Bytes) (s : State) :
    (deliveredState q p s).sndWait = s.sndWait := rfl
@[simp] theorem deliveredState_intakeEn (q : SeqBit) (p : Bytes) (s : State) :
    (deliveredState q p s).intakeEn = s.intakeEn := rfl
@[simp] theorem deliveredState_bufFull (q : SeqBit) (p : Bytes) (s : State) :
    (deliveredState q p s).bufFull = s.bufFull := rfl
@[simp] theorem deliveredState_bufSeq (q : SeqBit) (p : Bytes) (s : State) :
    (deliveredState q p s).bufSeq = s.bufSeq := rfl
@[simp] theorem deliveredState_bufLen (q : SeqBit) (p : Bytes) (s : State) :
    (deliveredState q p s).bufLen = s.bufLen := rfl
@[simp] theorem deliveredState_bufData (q : SeqBit) (p : Bytes) (s : State) :
    (deliveredState q p s).bufData = s.bufData := rfl
@[simp] theorem deliveredState_tmrActive (q : SeqBit) (p : Bytes) (s : State) :
    (deliveredState q p s).tmrActive = s.tmrActive := rfl
@[simp] theorem deliveredState_tmrGen (q : SeqBit) (p : Bytes) (s : State) :
    (deliveredState q p s).tmrGen = s.tmrGen := rfl
@[simp] theorem deliveredState_fault (q : SeqBit) (p : Bytes) (s : State) :
    (deliveredState q p s).fault = s.fault := rfl
@[simp] theorem deliveredState_status (q : SeqBit) (p : Bytes) (s : State) :
    (deliveredState q p s).status = Status.ok.code := rfl
@[simp] theorem deliveredState_config (q : SeqBit) (p : Bytes) (s : State) :
    (deliveredState q p s).config = s.config := rfl
@[simp] theorem deliveredState_inbox (q : SeqBit) (p : Bytes) (s : State) :
    (deliveredState q p s).inbox = s.inbox := rfl
@[simp] theorem deliveredState_keyPort (q : SeqBit) (p : Bytes) (s : State) :
    (deliveredState q p s).keyPort = s.keyPort := rfl
@[simp] theorem deliveredState_actions (q : SeqBit) (p : Bytes) (s : State) :
    (deliveredState q p s).actions = s.actions ++ [.deliver p] ++ [.send s.config.hostLink (ackFrame s.config q)] := rfl
@[simp] theorem deliveredState_result (q : SeqBit) (p : Bytes) (s : State) :
    (deliveredState q p s).result = s.result := rfl

/-! ### forwardedState -/

@[simp] theorem forwardedState_booted (q : SeqBit) (p B : Bytes) (s : State) :
    (forwardedState q p B s).booted = s.booted := rfl
@[simp] theorem forwardedState_role (q : SeqBit) (p B : Bytes) (s : State) :
    (forwardedState q p B s).role = s.role := rfl
@[simp] theorem forwardedState_orig (q : SeqBit) (p B : Bytes) (s : State) :
    (forwardedState q p B s).orig = s.orig := rfl
@[simp] theorem forwardedState_nodeId (q : SeqBit) (p B : Bytes) (s : State) :
    (forwardedState q p B s).nodeId = s.nodeId := rfl
@[simp] theorem forwardedState_ackexpected (q : SeqBit) (p B : Bytes) (s : State) :
    (forwardedState q p B s).ackexpected = s.ackexpected := rfl
@[simp] theorem forwardedState_nextframetosend (q : SeqBit) (p B : Bytes) (s : State) :
    (forwardedState q p B s).nextframetosend = s.nextframetosend := rfl
@[simp] theorem forwardedState_frameexpected (q : SeqBit) (p B : Bytes) (s : State) :
    (forwardedState q p B s).frameexpected = flipBit s.frameexpected := rfl
@[simp] theorem forwardedState_sndWait (q : SeqBit) (p B : Bytes) (s : State) :
    (forwardedState q p B s).sndWait = s.sndWait := rfl
@[simp] theorem forwardedState_intakeEn (q : SeqBit) (p B : Bytes) (s : State) :
    (forwardedState q p B s).intakeEn = s.intakeEn := rfl
@[simp] theorem forwardedState_bufFull (q : SeqBit) (p B : Bytes) (s : State) :
    (forwardedState q p B s).bufFull = true := rfl
@[simp] theorem forwardedState_bufSeq (q : SeqBit) (p B : Bytes) (s : State) :
    (forwardedState q p B s).bufSeq = q := rfl
@[simp] theorem forwardedState_bufLen (q : SeqBit) (p B : Bytes) (s : State) :
    (forwardedState q p B s).bufLen = BitVec.ofNat 16 p.length := rfl
@[simp] theorem forwardedState_bufData (q : SeqBit) (p B : Bytes) (s : State) :
    (forwardedState q p B s).bufData = p := rfl
@[simp] theorem forwardedState_tmrActive (q : SeqBit) (p B : Bytes) (s : State) :
    (forwardedState q p B s).tmrActive = true := rfl
@[simp] theorem forwardedState_tmrGen (q : SeqBit) (p B : Bytes) (s : State) :
    (forwardedState q p B s).tmrGen = nextGen s.config s.tmrGen := rfl
@[simp] theorem forwardedState_fault (q : SeqBit) (p B : Bytes) (s : State) :
    (forwardedState q p B s).fault = s.fault := rfl
@[simp] theorem forwardedState_status (q : SeqBit) (p B : Bytes) (s : State) :
    (forwardedState q p B s).status = Status.ok.code := rfl
@[simp] theorem forwardedState_config (q : SeqBit) (p B : Bytes) (s : State) :
    (forwardedState q p B s).config = s.config := rfl
@[simp] theorem forwardedState_inbox (q : SeqBit) (p B : Bytes) (s : State) :
    (forwardedState q p B s).inbox = s.inbox := rfl
@[simp] theorem forwardedState_keyPort (q : SeqBit) (p B : Bytes) (s : State) :
    (forwardedState q p B s).keyPort = s.keyPort := rfl
@[simp] theorem forwardedState_actions (q : SeqBit) (p B : Bytes) (s : State) :
    (forwardedState q p B s).actions = s.actions ++ [.send s.config.routerUpLink (ackFrame s.config q)] ++ [.send s.config.routerDownLink B] ++
      cancelActions s ++ [.tstart (nextGen s.config s.tmrGen) (timeoutUs s.config s.config.routerDownLink B.length)] := rfl
@[simp] theorem forwardedState_result (q : SeqBit) (p B : Bytes) (s : State) :
    (forwardedState q p B s).result = s.result := rfl

/-! ### releasedState -/

@[simp] theorem releasedState_booted (s : State) : (releasedState s).booted = s.booted := rfl
@[simp] theorem releasedState_role (s : State) : (releasedState s).role = s.role := rfl
@[simp] theorem releasedState_orig (s : State) : (releasedState s).orig = s.orig := rfl
@[simp] theorem releasedState_nodeId (s : State) : (releasedState s).nodeId = s.nodeId := rfl
@[simp] theorem releasedState_ackexpected (s : State) : (releasedState s).ackexpected = flipBit s.ackexpected := rfl
@[simp] theorem releasedState_nextframetosend (s : State) :
    (releasedState s).nextframetosend = s.nextframetosend := rfl
@[simp] theorem releasedState_frameexpected (s : State) : (releasedState s).frameexpected = s.frameexpected := rfl
@[simp] theorem releasedState_sndWait (s : State) : (releasedState s).sndWait = s.sndWait := rfl
@[simp] theorem releasedState_intakeEn (s : State) : (releasedState s).intakeEn = s.intakeEn := rfl
@[simp] theorem releasedState_bufFull (s : State) : (releasedState s).bufFull = false := rfl
@[simp] theorem releasedState_bufSeq (s : State) : (releasedState s).bufSeq = s.bufSeq := rfl
@[simp] theorem releasedState_bufLen (s : State) : (releasedState s).bufLen = s.bufLen := rfl
@[simp] theorem releasedState_bufData (s : State) : (releasedState s).bufData = s.bufData := rfl
@[simp] theorem releasedState_tmrActive (s : State) : (releasedState s).tmrActive = false := rfl
@[simp] theorem releasedState_tmrGen (s : State) : (releasedState s).tmrGen = s.tmrGen := rfl
@[simp] theorem releasedState_fault (s : State) : (releasedState s).fault = s.fault := rfl
@[simp] theorem releasedState_status (s : State) : (releasedState s).status = Status.ok.code := rfl
@[simp] theorem releasedState_config (s : State) : (releasedState s).config = s.config := rfl
@[simp] theorem releasedState_inbox (s : State) : (releasedState s).inbox = s.inbox := rfl
@[simp] theorem releasedState_keyPort (s : State) : (releasedState s).keyPort = s.keyPort := rfl
@[simp] theorem releasedState_actions (s : State) : (releasedState s).actions = s.actions ++ cancelActions s := rfl
@[simp] theorem releasedState_result (s : State) : (releasedState s).result = s.result := rfl

/-! ### retransmittedState -/

@[simp] theorem retransmittedState_booted (l : Link) (B : Bytes) (s : State) :
    (retransmittedState l B s).booted = s.booted := rfl
@[simp] theorem retransmittedState_role (l : Link) (B : Bytes) (s : State) :
    (retransmittedState l B s).role = s.role := rfl
@[simp] theorem retransmittedState_orig (l : Link) (B : Bytes) (s : State) :
    (retransmittedState l B s).orig = s.orig := rfl
@[simp] theorem retransmittedState_nodeId (l : Link) (B : Bytes) (s : State) :
    (retransmittedState l B s).nodeId = s.nodeId := rfl
@[simp] theorem retransmittedState_ackexpected (l : Link) (B : Bytes) (s : State) :
    (retransmittedState l B s).ackexpected = s.ackexpected := rfl
@[simp] theorem retransmittedState_nextframetosend (l : Link) (B : Bytes) (s : State) :
    (retransmittedState l B s).nextframetosend = s.nextframetosend := rfl
@[simp] theorem retransmittedState_frameexpected (l : Link) (B : Bytes) (s : State) :
    (retransmittedState l B s).frameexpected = s.frameexpected := rfl
@[simp] theorem retransmittedState_sndWait (l : Link) (B : Bytes) (s : State) :
    (retransmittedState l B s).sndWait = s.sndWait := rfl
@[simp] theorem retransmittedState_intakeEn (l : Link) (B : Bytes) (s : State) :
    (retransmittedState l B s).intakeEn = s.intakeEn := rfl
@[simp] theorem retransmittedState_bufFull (l : Link) (B : Bytes) (s : State) :
    (retransmittedState l B s).bufFull = s.bufFull := rfl
@[simp] theorem retransmittedState_bufSeq (l : Link) (B : Bytes) (s : State) :
    (retransmittedState l B s).bufSeq = s.bufSeq := rfl
@[simp] theorem retransmittedState_bufLen (l : Link) (B : Bytes) (s : State) :
    (retransmittedState l B s).bufLen = s.bufLen := rfl
@[simp] theorem retransmittedState_bufData (l : Link) (B : Bytes) (s : State) :
    (retransmittedState l B s).bufData = s.bufData := rfl
@[simp] theorem retransmittedState_tmrActive (l : Link) (B : Bytes) (s : State) :
    (retransmittedState l B s).tmrActive = true := rfl
@[simp] theorem retransmittedState_tmrGen (l : Link) (B : Bytes) (s : State) :
    (retransmittedState l B s).tmrGen = nextGen s.config s.tmrGen := rfl
@[simp] theorem retransmittedState_fault (l : Link) (B : Bytes) (s : State) :
    (retransmittedState l B s).fault = s.fault := rfl
@[simp] theorem retransmittedState_status (l : Link) (B : Bytes) (s : State) :
    (retransmittedState l B s).status = Status.ok.code := rfl
@[simp] theorem retransmittedState_config (l : Link) (B : Bytes) (s : State) :
    (retransmittedState l B s).config = s.config := rfl
@[simp] theorem retransmittedState_inbox (l : Link) (B : Bytes) (s : State) :
    (retransmittedState l B s).inbox = s.inbox := rfl
@[simp] theorem retransmittedState_keyPort (l : Link) (B : Bytes) (s : State) :
    (retransmittedState l B s).keyPort = s.keyPort := rfl
@[simp] theorem retransmittedState_actions (l : Link) (B : Bytes) (s : State) :
    (retransmittedState l B s).actions = s.actions ++ [.send l B] ++ [.tstart (nextGen s.config s.tmrGen) (timeoutUs s.config l B.length)] := rfl
@[simp] theorem retransmittedState_result (l : Link) (B : Bytes) (s : State) :
    (retransmittedState l B s).result = s.result := rfl

/-! ### reackedState -/

@[simp] theorem reackedState_booted (l : Link) (q : SeqBit) (s : State) :
    (reackedState l q s).booted = s.booted := rfl
@[simp] theorem reackedState_role (l : Link) (q : SeqBit) (s : State) :
    (reackedState l q s).role = s.role := rfl
@[simp] theorem reackedState_orig (l : Link) (q : SeqBit) (s : State) :
    (reackedState l q s).orig = s.orig := rfl
@[simp] theorem reackedState_nodeId (l : Link) (q : SeqBit) (s : State) :
    (reackedState l q s).nodeId = s.nodeId := rfl
@[simp] theorem reackedState_ackexpected (l : Link) (q : SeqBit) (s : State) :
    (reackedState l q s).ackexpected = s.ackexpected := rfl
@[simp] theorem reackedState_nextframetosend (l : Link) (q : SeqBit) (s : State) :
    (reackedState l q s).nextframetosend = s.nextframetosend := rfl
@[simp] theorem reackedState_frameexpected (l : Link) (q : SeqBit) (s : State) :
    (reackedState l q s).frameexpected = s.frameexpected := rfl
@[simp] theorem reackedState_sndWait (l : Link) (q : SeqBit) (s : State) :
    (reackedState l q s).sndWait = s.sndWait := rfl
@[simp] theorem reackedState_intakeEn (l : Link) (q : SeqBit) (s : State) :
    (reackedState l q s).intakeEn = s.intakeEn := rfl
@[simp] theorem reackedState_bufFull (l : Link) (q : SeqBit) (s : State) :
    (reackedState l q s).bufFull = s.bufFull := rfl
@[simp] theorem reackedState_bufSeq (l : Link) (q : SeqBit) (s : State) :
    (reackedState l q s).bufSeq = s.bufSeq := rfl
@[simp] theorem reackedState_bufLen (l : Link) (q : SeqBit) (s : State) :
    (reackedState l q s).bufLen = s.bufLen := rfl
@[simp] theorem reackedState_bufData (l : Link) (q : SeqBit) (s : State) :
    (reackedState l q s).bufData = s.bufData := rfl
@[simp] theorem reackedState_tmrActive (l : Link) (q : SeqBit) (s : State) :
    (reackedState l q s).tmrActive = s.tmrActive := rfl
@[simp] theorem reackedState_tmrGen (l : Link) (q : SeqBit) (s : State) :
    (reackedState l q s).tmrGen = s.tmrGen := rfl
@[simp] theorem reackedState_fault (l : Link) (q : SeqBit) (s : State) :
    (reackedState l q s).fault = s.fault := rfl
@[simp] theorem reackedState_status (l : Link) (q : SeqBit) (s : State) :
    (reackedState l q s).status = Status.okReack.code := rfl
@[simp] theorem reackedState_config (l : Link) (q : SeqBit) (s : State) :
    (reackedState l q s).config = s.config := rfl
@[simp] theorem reackedState_inbox (l : Link) (q : SeqBit) (s : State) :
    (reackedState l q s).inbox = s.inbox := rfl
@[simp] theorem reackedState_keyPort (l : Link) (q : SeqBit) (s : State) :
    (reackedState l q s).keyPort = s.keyPort := rfl
@[simp] theorem reackedState_actions (l : Link) (q : SeqBit) (s : State) :
    (reackedState l q s).actions = s.actions ++ [.send l (ackFrame s.config q)] := rfl
@[simp] theorem reackedState_result (l : Link) (q : SeqBit) (s : State) :
    (reackedState l q s).result = s.result := rfl

/-! ### diagnosedState -/

@[simp] theorem diagnosedState_booted (s : State) :
    (diagnosedState s).booted = s.booted := rfl
@[simp] theorem diagnosedState_role (s : State) :
    (diagnosedState s).role = s.role := rfl
@[simp] theorem diagnosedState_orig (s : State) :
    (diagnosedState s).orig = s.orig := rfl
@[simp] theorem diagnosedState_nodeId (s : State) :
    (diagnosedState s).nodeId = s.nodeId := rfl
@[simp] theorem diagnosedState_ackexpected (s : State) :
    (diagnosedState s).ackexpected = s.ackexpected := rfl
@[simp] theorem diagnosedState_nextframetosend (s : State) :
    (diagnosedState s).nextframetosend = s.nextframetosend := rfl
@[simp] theorem diagnosedState_frameexpected (s : State) :
    (diagnosedState s).frameexpected = s.frameexpected := rfl
@[simp] theorem diagnosedState_sndWait (s : State) :
    (diagnosedState s).sndWait = s.sndWait := rfl
@[simp] theorem diagnosedState_intakeEn (s : State) :
    (diagnosedState s).intakeEn = s.intakeEn := rfl
@[simp] theorem diagnosedState_bufFull (s : State) :
    (diagnosedState s).bufFull = s.bufFull := rfl
@[simp] theorem diagnosedState_bufSeq (s : State) :
    (diagnosedState s).bufSeq = s.bufSeq := rfl
@[simp] theorem diagnosedState_bufLen (s : State) :
    (diagnosedState s).bufLen = s.bufLen := rfl
@[simp] theorem diagnosedState_bufData (s : State) :
    (diagnosedState s).bufData = s.bufData := rfl
@[simp] theorem diagnosedState_tmrActive (s : State) :
    (diagnosedState s).tmrActive = s.tmrActive := rfl
@[simp] theorem diagnosedState_tmrGen (s : State) :
    (diagnosedState s).tmrGen = s.tmrGen := rfl
@[simp] theorem diagnosedState_fault (s : State) :
    (diagnosedState s).fault = s.fault := rfl
@[simp] theorem diagnosedState_status (s : State) :
    (diagnosedState s).status = Status.ok.code := rfl
@[simp] theorem diagnosedState_config (s : State) :
    (diagnosedState s).config = s.config := rfl
@[simp] theorem diagnosedState_inbox (s : State) :
    (diagnosedState s).inbox = s.inbox := rfl
@[simp] theorem diagnosedState_keyPort (s : State) :
    (diagnosedState s).keyPort = s.keyPort := rfl
@[simp] theorem diagnosedState_actions (s : State) :
    (diagnosedState s).actions = s.actions ++ [.diagtext (diagText s)] := rfl
@[simp] theorem diagnosedState_result (s : State) :
    (diagnosedState s).result = s.result := rfl

end Sys2Proof.Machine
end

