-- ==== Sys2Proof/Laws/Step.lean ====
section
/-! SUPPORT. What one step can do, said once: the keys the dispatcher forms, and every way an event can end. -/
namespace Sys2Proof.Machine

/-! ### The keys the dispatcher forms -/

/-- A key with a row runs the operation of that row. -/
theorem runKey_of_op {w : KeyWord} {op : Op} (h : opOfKey w.key = some op) (s : State) :
    runKey w s = exec (instrOf op w.operands) s := by
  simp only [runKey, decode, h]

@[simp] theorem runKey_bootWord (cfg : BootCfg) (s : State) :
    runKey (bootWord cfg) s = execBoot cfg s :=
  runKey_of_op (w := bootWord cfg) (op := .boot) (show opOfKey 0x00#8 = some .boot by decide) s

@[simp] theorem runKey_diagWord (s : State) :
    runKey diagWord s = execDiag s :=
  runKey_of_op (w := diagWord) (op := .diag) (show opOfKey 0x04#8 = some .diag by decide) s

@[simp] theorem runKey_hostData (q : SeqBit) (p : Bytes) (s : State) :
    runKey (frameWord .host .data q p) s = execHData q p s :=
  runKey_of_op (w := frameWord .host .data q p) (op := .hData) (show opOfKey 0x01#8 = some .hData by decide) s

@[simp] theorem runKey_hostAck (q : SeqBit) (p : Bytes) (s : State) :
    runKey (frameWord .host .ack q p) s = execHAck q s :=
  runKey_of_op (w := frameWord .host .ack q p) (op := .hAck) (show opOfKey 0x09#8 = some .hAck by decide) s

@[simp] theorem runKey_routerData (q : SeqBit) (p : Bytes) (s : State) :
    runKey (frameWord .router .data q p) s = execRData q p s :=
  runKey_of_op (w := frameWord .router .data q p) (op := .rData) (show opOfKey 0x11#8 = some .rData by decide) s

@[simp] theorem runKey_routerAck (q : SeqBit) (p : Bytes) (s : State) :
    runKey (frameWord .router .ack q p) s = execRAck q s :=
  runKey_of_op (w := frameWord .router .ack q p) (op := .rAck) (show opOfKey 0x19#8 = some .rAck by decide) s

@[simp] theorem runKey_hostTimer (s : State) :
    runKey (timerWord .host) s = execHTimeout s :=
  runKey_of_op (w := timerWord .host) (op := .hTimeout) (show opOfKey 0x02#8 = some .hTimeout by decide) s

@[simp] theorem runKey_routerTimer (s : State) :
    runKey (timerWord .router) s = execRTimeout s :=
  runKey_of_op (w := timerWord .router) (op := .rTimeout) (show opOfKey 0x12#8 = some .rTimeout by decide) s

@[simp] theorem runKey_hostPayload (p : Bytes) (s : State) :
    runKey (payloadWord .host p) s = execHSend p s :=
  runKey_of_op (w := payloadWord .host p) (op := .hSend) (show opOfKey 0x03#8 = some .hSend by decide) s

@[simp] theorem runKey_routerPayload (p : Bytes) (s : State) :
    runKey (payloadWord .router p) s = execRPayload p s :=
  runKey_of_op (w := payloadWord .router p) (op := .rPayload) (show opOfKey 0x13#8 = some .rPayload by decide) s

/-! ### The step -/

theorem step_key {s : State} {w : KeyWord} (h : s.keyPort = some w) : step s = runKey w s.takeKey := by
  simp [step, h]

theorem step_event {s : State} {e : Event} {rest : List Event} (hk : s.keyPort = none) (hi : s.inbox = e :: rest) :
    step s = dispatchEvent e (s.takeEvent rest) := by
  simp [step, hk, hi]

theorem step_idle {s : State} (hk : s.keyPort = none) (hi : s.inbox = []) : step s = .next s := by
  simp [step, hk, hi]

/-! ### Every way an event can end -/

/-- The link a node acknowledges on (44_dispatcher.md R182). -/
def ackLink (s : State) : Link :=
  match s.role with
  | .host   => s.config.hostLink
  | .router => s.config.routerUpLink

theorem ackLink_host {s : State} (h : s.role = .host) : ackLink s = s.config.hostLink := by simp [ackLink, h]

theorem ackLink_router {s : State} (h : s.role = .router) : ackLink s = s.config.routerUpLink := by simp [ackLink, h]

/-- Every way in which the event `e`, taken in state `s`, can end in a next state. -/
inductive Effect (s : State) : Event → State → Prop where
  | boot (cfg : BootCfg) : Effect s (.boot cfg) (bootState cfg s)
  | unbooted (e : Event) (he : e.runTime = true) (hb : s.booted = false) : Effect s e (raiseFault .notBooted s)
  | discard (l : Link) (b : Bytes) (c : Discard) (hb : s.booted = true)
      (hv : validateFrame s.config b = .discard c) : Effect s (.frame l b) (drop (Status.ofDiscard c) s)
  | ignored (l : Link) (b : Bytes) (k : Kind) (q : SeqBit) (p : Bytes) (st : Status) (hb : s.booted = true)
      (hv : validateFrame s.config b = .valid k q p)
      (hwhy : (st = .ignSeq ∧ k = .data ∧ q ≠ s.frameexpected ∧ s.config.reackDuplicates = false ∧
            (s.role = .router → s.bufFull = false)) ∨
        (st = .ignBusy ∧ k = .data ∧ s.role = .router ∧ s.bufFull = true) ∨
        (st = .ignAck ∧ k = .ack ∧ q ≠ s.ackexpected ∧ (s.role = .host → s.sndWait = true)) ∨
        (st = .ignIdleAck ∧ k = .ack ∧ s.role = .host ∧ s.sndWait = false)) :
      Effect s (.frame l b) (drop st s)
  | reack (l : Link) (b : Bytes) (q : SeqBit) (p : Bytes) (hb : s.booted = true)
      (hv : validateFrame s.config b = .valid .data q p) (hr : s.config.reackDuplicates = true)
      (hq : q ≠ s.frameexpected) (hf : s.role = .router → s.bufFull = false) :
      Effect s (.frame l b) (reackedState (ackLink s) q s)
  | delivered (l : Link) (b : Bytes) (q : SeqBit) (p : Bytes) (hb : s.booted = true) (hr : s.role = .host)
      (hv : validateFrame s.config b = .valid .data q p) (hq : q = s.frameexpected) :
      Effect s (.frame l b) (deliveredState q p s)
  | acked (l : Link) (b : Bytes) (q : SeqBit) (p : Bytes) (hb : s.booted = true) (hr : s.role = .host)
      (hv : validateFrame s.config b = .valid .ack q p) (hw : s.sndWait = true) (hq : q = s.ackexpected) :
      Effect s (.frame l b) (ackedState s)
  | forwarded (l : Link) (b : Bytes) (q : SeqBit) (p : Bytes) (hb : s.booted = true) (hr : s.role = .router)
      (hv : validateFrame s.config b = .valid .data q p) (hf : s.bufFull = false) (hq : q = s.frameexpected) :
      Effect s (.frame l b) (forwardedState q p (frameBytes s.config .data q p) s)
  | released (l : Link) (b : Bytes) (q : SeqBit) (p : Bytes) (hb : s.booted = true) (hr : s.role = .router)
      (hv : validateFrame s.config b = .valid .ack q p) (hq : q = s.ackexpected) :
      Effect s (.frame l b) (releasedState s)
  | stale (g : Gen) (hb : s.booted = true) (ha : expiryAccepted g s = false) :
      Effect s (.timer g) (drop .ignStaleTimer s)
  | hostTimeout (g : Gen) (B : Bytes) (hb : s.booted = true) (hr : s.role = .host) (ha : expiryAccepted g s = true)
      (hw : s.sndWait = true) (hB : hostFrame s = .ok B) : Effect s (.timer g) (retransmittedState s.config.hostLink B s)
  | routerTimeout (g : Gen) (B : Bytes) (hb : s.booted = true) (hr : s.role = .router)
      (ha : expiryAccepted g s = true) (hf : s.bufFull = true) (hB : routerFrame s = .ok B) :
      Effect s (.timer g) (retransmittedState s.config.routerDownLink B s)
  | payloadFault (p : Bytes) (f : FaultBit) (hb : s.booted = true) (ha : admission p s = some f) :
      Effect s (.payload p) (raiseFault f s)
  | sent (p : Bytes) (hb : s.booted = true) (ha : admission p s = none) :
      Effect s (.payload p) (sentState p (frameBytes s.config .data s.nextframetosend p) s)
  | diag (hb : s.booted = true) : Effect s .diag (diagnosedState s)

theorem hostFrame_writeBuffer {p : Bytes} {s : State} (h : p.length ≤ s.config.maxMsg) :
    hostFrame (writeBuffer p s) = .ok (frameBytes s.config .data s.nextframetosend p) := by
  rw [hostFrame_legal (writeBuffer_bufferLegal h)]; rfl

theorem execHSend_admitted {p : Bytes} {s : State} (h : admission p s = none) :
    execHSend p s = .next (sentState p (frameBytes s.config .data s.nextframetosend p) s) := by
  have hp := (admission_eq_none.mp h).2.2
  simp only [execHSend, h, hostFrame_writeBuffer hp, withUnit_ok]
  rfl

theorem execHSend_fault {p : Bytes} {s : State} {f : FaultBit} (h : admission p s = some f) :
    execHSend p s = .next (raiseFault f s) := by
  simp only [execHSend, h]

theorem hostFrame_timerFired (s : State) : hostFrame (timerFired s) = hostFrame s := rfl

theorem routerFrame_timerFired (s : State) : routerFrame (timerFired s) = routerFrame s := rfl

/-- A frame event ends as `Effect` lists. -/
theorem dispatchFrame_effect {l : Link} {b : Bytes} {s t : State} (hb : s.booted = true)
    (h : dispatchFrame b s = .next t) : Effect s (.frame l b) t := by
  unfold dispatchFrame at h
  split at h
  · cases h; exact .discard l b _ hb (by assumption)
  · rename_i k q p hv
    cases hr : s.role <;> cases k <;> simp only [hr, runKey_hostData, runKey_hostAck, runKey_routerData,
      runKey_routerAck] at h
    · unfold execHData at h
      split at h
      · cases h; exact .delivered l b q p hb hr hv (by assumption)
      · split at h
        · cases h
          rw [← ackLink_host hr]
          exact .reack l b q p hb hv (by assumption) (by assumption) (by simp [hr])
        · cases h
          exact .ignored l b _ q p .ignSeq hb hv (.inl ⟨rfl, rfl, by assumption, by simp_all, by simp [hr]⟩)
    · unfold execHAck at h
      split at h
      · cases h; exact .ignored l b _ q p .ignIdleAck hb hv (.inr (.inr (.inr ⟨rfl, rfl, hr, by assumption⟩)))
      · split at h
        · cases h
          exact .ignored l b _ q p .ignAck hb hv (.inr (.inr (.inl ⟨rfl, rfl, by assumption, by simp_all⟩)))
        · cases h; exact .acked l b q p hb hr hv (by simp_all) (by simp_all)
    · unfold execRData at h
      split at h
      · cases h; exact .ignored l b _ q p .ignBusy hb hv (.inr (.inl ⟨rfl, rfl, hr, by assumption⟩))
      · split at h
        · split at h
          · cases h
            rw [← ackLink_router hr]
            exact .reack l b q p hb hv (by assumption) (by assumption) (by simp_all)
          · cases h
            exact .ignored l b _ q p .ignSeq hb hv (.inl ⟨rfl, rfl, by assumption, by simp_all, by simp_all⟩)
        · obtain ⟨B, hB, rfl⟩ := withUnit_next h
          obtain ⟨-, rfl⟩ := encodeFrame_ok hB
          exact .forwarded l b q p hb hr hv (by simp_all) (by simp_all)
    · unfold execRAck at h
      split at h
      · cases h
        exact .ignored l b _ q p .ignAck hb hv (.inr (.inr (.inl ⟨rfl, rfl, by assumption, by simp [hr]⟩)))
      · cases h; exact .released l b q p hb hr hv (by simp_all)

/-- A timer event ends as `Effect` lists. -/
theorem dispatchTimer_effect {g : Gen} {s t : State} (hb : s.booted = true) (h : dispatchTimer g s = .next t) :
    Effect s (.timer g) t := by
  unfold dispatchTimer at h
  split at h
  · rename_i ha
    cases hr : s.role
    · rw [hr, runKey_hostTimer] at h
      unfold execHTimeout at h
      split at h
      · cases h
      · rename_i hw
        obtain ⟨B, hB, rfl⟩ := withUnit_next h
        rw [hostFrame_timerFired] at hB
        rw [retransmittedState_eq]
        exact .hostTimeout g B hb hr ha (by simpa using hw) hB
    · rw [hr, runKey_routerTimer] at h
      unfold execRTimeout at h
      split at h
      · cases h
      · rename_i hw
        obtain ⟨B, hB, rfl⟩ := withUnit_next h
        rw [routerFrame_timerFired] at hB
        rw [retransmittedState_eq]
        exact .routerTimeout g B hb hr ha (by simpa using hw) hB
  · cases h; exact .stale g hb (by simp_all)

/-- What a payload does at a booted node: the fault of the check that fails, or H_SEND. -/
theorem dispatchPayload_eq (p : Bytes) (s : State) :
    dispatchPayload p s = match admission p s with
      | some f => .next (raiseFault f s)
      | none   => execHSend p s := by
  unfold dispatchPayload
  cases hr : s.role
  · cases ha : admission p s <;> simp
  · rw [show admission p s = some .role by simp [admission, hr]]
    simp [execRPayload]

/-- A payload event ends as `Effect` lists. -/
theorem dispatchPayload_effect {p : Bytes} {s t : State} (hb : s.booted = true) (h : dispatchPayload p s = .next t) :
    Effect s (.payload p) t := by
  rw [dispatchPayload_eq] at h
  cases ha : admission p s with
  | none => rw [ha] at h; simp only [execHSend_admitted ha] at h; cases h; exact .sent p hb ha
  | some f => rw [ha] at h; cases h; exact .payloadFault p f hb ha

/-- Every event that ends in a next state ends as `Effect` lists. -/
theorem dispatchEvent_effect {e : Event} {s t : State} (h : dispatchEvent e s = .next t) : Effect s e t := by
  cases e with
  | boot cfg =>
    rw [dispatchEvent, runKey_bootWord] at h
    cases h; exact .boot cfg
  | frame l b =>
    simp only [dispatchEvent] at h
    split at h
    · exact dispatchFrame_effect (by assumption) h
    · cases h; exact .unbooted _ rfl (by simp_all)
  | timer g =>
    simp only [dispatchEvent] at h
    split at h
    · exact dispatchTimer_effect (by assumption) h
    · cases h; exact .unbooted _ rfl (by simp_all)
  | payload p =>
    simp only [dispatchEvent] at h
    split at h
    · exact dispatchPayload_effect (by assumption) h
    · cases h; exact .unbooted _ rfl (by simp_all)
  | diag =>
    simp only [dispatchEvent] at h
    split at h
    · rw [runKey_diagWord] at h
      cases h; exact .diag (by assumption)
    · cases h; exact .unbooted _ rfl (by simp_all)

/-- One transition of the environment: the event is taken from the inbox and ends as `Effect` lists. -/
theorem Transition.effect {s t : State} {e : Event} (h : Transition s e t) :
    ∃ rest, s.inbox = e :: rest ∧ Effect (s.takeEvent rest) e t := by
  obtain ⟨hk, ⟨rest, hi⟩, hs⟩ := h
  exact ⟨rest, hi, dispatchEvent_effect (by rwa [step_event hk hi] at hs)⟩

/-! ### What every event keeps -/

/-- No event writes the parameters. -/
theorem Effect.config {s t : State} {e : Event} (h : Effect s e t) : t.config = s.config := by cases h <;> rfl

/-- A booted node stays booted. -/
theorem Effect.booted {s t : State} {e : Event} (h : Effect s e t) (hb : s.booted = true) : t.booted = true := by
  cases h with
  | boot => rfl
  | _ => simpa using hb

end Sys2Proof.Machine
end

