-- ==== Sys2Proof/Laws/Chain.lean ====
section
/-! SUPPORT. What performing a transition's actions and delivering one event do to a chain. -/
namespace Sys2Proof.Machine

/-! ### One action -/

@[simp] theorem perform_deployed (a : Action) (d : Node) : (d.perform a).deployed = d.deployed := by cases a <;> rfl

@[simp] theorem perform_core (a : Action) (d : Node) : (d.perform a).core = d.core := by cases a <;> rfl

@[simp] theorem perform_send (l : Link) (b : Bytes) (d : Node) : d.perform (.send l b) = d := rfl

@[simp] theorem perform_deliver (p : Bytes) (d : Node) :
    d.perform (.deliver p) = { d with delivered := d.delivered ++ [p] } := rfl

@[simp] theorem perform_intake (on : Bool) (d : Node) : d.perform (.intake on) = { d with intakeOn := on } := rfl

@[simp] theorem perform_diagtext (t : Text) (d : Node) :
    d.perform (.diagtext t) = { d with texts := d.texts ++ [t] } := rfl

@[simp] theorem perform_tstart (g : Gen) (n : Nat) (d : Node) :
    d.perform (.tstart g n) = { d with
      expiries := d.expiries ++ [{ gen := g, startNo := d.starts, cancelled := false }], starts := d.starts + 1 } := rfl

/-! ### A transition's actions -/

/-- Performs a list of actions at one node. -/
def Node.performAll (as : List Action) (d : Node) : Node := as.foldl (fun d a => d.perform a) d

@[simp] theorem performAll_nil (d : Node) : d.performAll [] = d := rfl

@[simp] theorem performAll_cons (a : Action) (as : List Action) (d : Node) :
    d.performAll (a :: as) = (d.perform a).performAll as := rfl

@[simp] theorem performAll_append (as bs : List Action) (d : Node) :
    d.performAll (as ++ bs) = (d.performAll as).performAll bs := by
  simp [Node.performAll, List.foldl_append]

@[simp] theorem performAll_deployed (as : List Action) (d : Node) : (d.performAll as).deployed = d.deployed := by
  induction as generalizing d with
  | nil => rfl
  | cons a as ih => simp [ih]

@[simp] theorem performAll_core (as : List Action) (d : Node) : (d.performAll as).core = d.core := by
  induction as generalizing d with
  | nil => rfl
  | cons a as ih => simp [ih]

/-- Cancelling a timer starts none. -/
@[simp] theorem performAll_cancelActions_starts (s : State) (d : Node) :
    (d.performAll (cancelActions s)).starts = d.starts := by
  unfold cancelActions; split <;> rfl

/-- Cancelling a timer says nothing to the application. -/
@[simp] theorem performAll_cancelActions_intakeOn (s : State) (d : Node) :
    (d.performAll (cancelActions s)).intakeOn = d.intakeOn := by
  unfold cancelActions; split <;> rfl

/-- Cancelling a timer keeps every expiry the facility holds, with its tag. -/
theorem mem_performAll_cancelActions {s : State} {d : Node} {x : Expiry}
    (h : x ∈ (d.performAll (cancelActions s)).expiries) : ∃ y ∈ d.expiries, x.gen = y.gen ∧ x.startNo = y.startNo := by
  unfold cancelActions at h
  split at h
  · obtain ⟨y, hy, rfl⟩ := List.mem_map.mp h
    exact ⟨y, hy, by split <;> exact ⟨rfl, rfl⟩⟩
  · exact ⟨x, h, rfl, rfl⟩

/-- Cancelling a timer delivers nothing. -/
@[simp] theorem performAll_cancelActions_delivered (s : State) (d : Node) :
    (d.performAll (cancelActions s)).delivered = d.delivered := by
  unfold cancelActions; split <;> rfl

/-- Cancelling a timer hands nothing to the links. -/
@[simp] theorem cancelActions_flatMap_sentBy (cfs : List Config) (i : Nat) (s : State) :
    (cancelActions s).flatMap (sentBy cfs i) = [] := by
  unfold cancelActions; split <;> rfl

/-! ### One event -/

/-- The core's own part of a delivery is one transition from an inbox that holds just the event. -/
theorem react_transition {e : Event} {s t : State} (h : s.react e = .next t) :
    Effect (({ s with inbox := [e], keyPort := none } : State).takeEvent []) e t :=
  dispatchEvent_effect (by rwa [State.react, step_event rfl rfl] at h)

/-- A core keeps its parameters. -/
theorem react_config {e : Event} {s t : State} (h : s.react e = .next t) : t.config = s.config :=
  (react_transition h).config

/-- Replacing a node by one with the same parameters keeps the wiring. -/
theorem configs_set {c : Chain} {i : Nat} {d d' : Node} {w : List Transit} (hd : c.nodes[i]? = some d)
    (hc : d'.core.config = d.core.config) : ({ nodes := c.nodes.set i d', wire := w } : Chain).configs = c.configs := by
  obtain ⟨hi, rfl⟩ := List.getElem?_eq_some_iff.mp hd
  apply List.ext_getElem?
  intro j
  by_cases hj : i = j
  · subst hj; simp [Chain.configs, hi, hc]
  · simp [Chain.configs, hj]

/-- A delivery changes one node, by the core's transition and then by its actions, and hands the links what was sent. -/
theorem deliver_nodes {i : Nat} {e : Event} {c c' : Chain} (h : c.deliver i e = some c') :
    ∃ d t, c.nodes[i]? = some d ∧ d.core.react e = .next t ∧
      c'.nodes = c.nodes.set i (({ d with core := t } : Node).performAll t.actions) ∧
      c'.wire = c.wire ++ t.actions.flatMap (sentBy c.configs i) := by
  unfold Chain.deliver at h
  cases hd : c.nodes[i]? with
  | none => simp [hd] at h
  | some d =>
    simp only [hd] at h
    split at h
    · rename_i t ht
      cases h
      refine ⟨d, t, rfl, ht, ?_, by simp [Chain.perform, configs_set (d' := { d with core := t }) hd (react_config ht)]⟩
      apply List.ext_getElem?
      intro j
      obtain ⟨hi, -⟩ := List.getElem?_eq_some_iff.mp hd
      by_cases hj : i = j
      · subst hj
        simp [Chain.perform, Node.performAll, hi]
      · simp [Chain.perform, hj]
    · cases h

/-- Run-time events are delivered once the chain is booted. -/
theorem deliverReady_eq_some {i : Nat} {e : Event} {c c' : Chain} (h : c.deliverReady i e = some c') :
    c.ready = true ∧ c.deliver i e = some c' := by
  unfold Chain.deliverReady at h
  split at h
  · exact ⟨by assumption, h⟩
  · cases h

/-- An event is delivered whenever the node's transition ends in a next state. -/
theorem deliver_isSome {i : Nat} {e : Event} {c : Chain} {d : Node} {t : State} (hd : c.nodes[i]? = some d)
    (ht : d.core.react e = .next t) : (c.deliver i e).isSome = true := by
  simp [Chain.deliver, hd, ht]

/-! ### Moves -/

theorem deliverReady_wire {i : Nat} {e : Event} {c c' : Chain} (h : c.deliverReady i e = some c') :
    ∃ sent, c'.wire = c.wire ++ sent := by
  obtain ⟨-, h⟩ := deliverReady_eq_some h
  obtain ⟨_, _, _, _, _, hw⟩ := deliver_nodes h
  exact ⟨_, hw⟩

/-- A move only adds to the wire's history. -/
theorem move_wire {m : Move} {c c' : Chain} (h : c.move m = some c') : ∃ sent, c'.wire = c.wire ++ sent := by
  cases m with
  | boot i cfg =>
    simp only [Chain.move, Chain.bootNode] at h
    split at h
    · cases h
    · split at h
      · obtain ⟨_, _, _, _, _, hw⟩ := deliver_nodes h
        exact ⟨_, hw⟩
      · cases h
  | diag i => exact deliverReady_wire h
  | frame k =>
    simp only [Chain.move, Option.bind_eq_some_iff] at h
    obtain ⟨f, -, h⟩ := h
    exact deliverReady_wire h
  | corrupted k b =>
    simp only [Chain.move, Option.bind_eq_some_iff] at h
    obtain ⟨f, -, h⟩ := h
    exact deliverReady_wire h
  | payload i p =>
    simp only [Chain.move, Chain.offer] at h
    split at h
    · cases h
    · split at h
      · exact deliverReady_wire h
      · cases h
  | expiry i k =>
    simp only [Chain.move, Chain.expire] at h
    split at h
    · cases h
    · split at h
      · cases h
      · split at h
        · obtain ⟨sent, hw⟩ := deliverReady_wire h
          exact ⟨sent, hw⟩
        · cases h

/-- A run only adds to the wire's history. -/
theorem run_wire {ms : List Move} {c c' : Chain} (h : c.run ms = some c') : ∃ sent, c'.wire = c.wire ++ sent := by
  induction ms generalizing c with
  | nil => cases h; exact ⟨[], by simp⟩
  | cons m ms ih =>
    simp only [Chain.run, Option.bind_eq_some_iff] at h
    obtain ⟨c1, h1, h2⟩ := h
    obtain ⟨x, hx⟩ := move_wire h1
    obtain ⟨y, hy⟩ := ih h2
    exact ⟨x ++ y, by rw [hy, hx, List.append_assoc]⟩

end Sys2Proof.Machine
end

