-- ==== Sys2Proof/Laws/PerInstr.lean ====
section
/-! SUPPORT. Statements made for every operation, one lemma per constructor of `Instr`. -/
namespace Sys2Proof.Laws.KeyRow

/-- The key an operation is encoded with matches one row of the operation map and no other, and the row's operation with
the operands beside the key is the operation (30_encoding.md R82). -/
def Statement (i : Instr) : Prop :=
  ∃ r : Sys2Proof.KeyRow, keyRows.filter (fun row => row.covers (encode i).key) = [r] ∧
    instrOf r.op (encode i).operands = i

/-- The rows that match one of the fifteen keys, found by evaluation. -/
theorem of_key {i : Instr} {k : Key} {r : Sys2Proof.KeyRow} (hk : (encode i).key = k)
    (hr : keyRows.filter (fun row => row.covers k) = [r]) (hi : instrOf r.op (encode i).operands = i) : Statement i :=
  ⟨r, by rw [hk]; exact hr, hi⟩

theorem boot (cfg : BootCfg) : Statement (.boot cfg) :=
  of_key (k := 0x00#8) (r := { op := .boot, value := 0x00#8, mask := 0xEF#8 }) rfl (by decide) rfl

theorem hData (seq : SeqBit) (payload : Bytes) : Statement (.hData seq payload) :=
  of_key (k := 0x01#8) (r := { op := .hData, value := 0x01#8, mask := 0xFF#8 }) rfl (by decide) rfl

theorem hTimeout : Statement .hTimeout :=
  of_key (k := 0x02#8) (r := { op := .hTimeout, value := 0x02#8, mask := 0xFF#8 }) rfl (by decide) rfl

theorem hSend (payload : Bytes) : Statement (.hSend payload) :=
  of_key (k := 0x03#8) (r := { op := .hSend, value := 0x03#8, mask := 0xFF#8 }) rfl (by decide) rfl

theorem diag : Statement .diag :=
  of_key (k := 0x04#8) (r := { op := .diag, value := 0x04#8, mask := 0xEF#8 }) rfl (by decide) rfl

theorem hAck (seq : SeqBit) : Statement (.hAck seq) :=
  of_key (k := 0x09#8) (r := { op := .hAck, value := 0x09#8, mask := 0xFF#8 }) rfl (by decide) rfl

theorem rData (seq : SeqBit) (payload : Bytes) : Statement (.rData seq payload) :=
  of_key (k := 0x11#8) (r := { op := .rData, value := 0x11#8, mask := 0xFF#8 }) rfl (by decide) rfl

theorem rTimeout : Statement .rTimeout :=
  of_key (k := 0x12#8) (r := { op := .rTimeout, value := 0x12#8, mask := 0xFF#8 }) rfl (by decide) rfl

theorem rPayload (payload : Bytes) : Statement (.rPayload payload) :=
  of_key (k := 0x13#8) (r := { op := .rPayload, value := 0x13#8, mask := 0xFF#8 }) rfl (by decide) rfl

theorem rAck (seq : SeqBit) : Statement (.rAck seq) :=
  of_key (k := 0x19#8) (r := { op := .rAck, value := 0x19#8, mask := 0xFF#8 }) rfl (by decide) rfl

theorem encode (kind : Kind) (seq : SeqBit) (payload : Bytes) : Statement (.encode kind seq payload) :=
  of_key (k := 0xE0#8) (r := { op := .encode, value := 0xE0#8, mask := 0xFF#8 }) rfl (by decide) rfl

theorem validate (bytes : Bytes) : Statement (.validate bytes) :=
  of_key (k := 0xE1#8) (r := { op := .validate, value := 0xE1#8, mask := 0xFF#8 }) rfl (by decide) rfl

theorem timerStart (link : Link) (size : Nat) : Statement (.timerStart link size) :=
  of_key (k := 0xE2#8) (r := { op := .timerStart, value := 0xE2#8, mask := 0xFF#8 }) rfl (by decide) rfl

theorem timerCancel : Statement .timerCancel :=
  of_key (k := 0xE3#8) (r := { op := .timerCancel, value := 0xE3#8, mask := 0xFF#8 }) rfl (by decide) rfl

theorem timerExpire (gen : Gen) : Statement (.timerExpire gen) :=
  of_key (k := 0xE4#8) (r := { op := .timerExpire, value := 0xE4#8, mask := 0xFF#8 }) rfl (by decide) rfl

end Sys2Proof.Laws.KeyRow
end

