-- ==== Sys2Proof/Laws/Port.lean ====
section
/-! SUPPORT. The bits of a field of the observation port. -/
namespace Sys2Proof.Machine

/-- A field shows its bits from its place on, and nothing elsewhere. -/
theorem portField_getLsbD {n : Nat} (a : Nat) (v : BitVec n) (i : Nat) :
    (portField a v).getLsbD i = (decide (i < 32) && (decide (a ≤ i) && v.getLsbD (i - a))) := by
  unfold portField
  rw [BitVec.getLsbD_shiftLeft, BitVec.getLsbD_setWidth]
  by_cases h : i < 32 <;> by_cases h2 : a ≤ i
  · have h3 : i - a < 32 := by omega
    have h4 : ¬ i < a := by omega
    simp [h, h2, h3, h4]
  · have h4 : i < a := by omega
    simp [h2, h4]
  · simp [h]
  · simp [h]

/-- Outside its width a field shows nothing. -/
theorem portField_getLsbD_of_ge {n : Nat} {a : Nat} {v : BitVec n} {i : Nat} (h : a + n ≤ i) :
    (portField a v).getLsbD i = false := by
  rw [portField_getLsbD, BitVec.getLsbD_of_ge v (i - a) (by omega)]
  simp

/-- Below its place a field shows nothing. -/
theorem portField_getLsbD_of_lt {n : Nat} {a : Nat} {v : BitVec n} {i : Nat} (h : i < a) :
    (portField a v).getLsbD i = false := by
  rw [portField_getLsbD]
  have : ¬ a ≤ i := by omega
  simp [this]

end Sys2Proof.Machine
end

