-- ==== Sys2Proof/Tests/Slice0.lean ====
section
/-! SUPPORT. The model's own tests, one step each, with the results 95_test_vectors.md gives (the vector's name stands
before each), and a witness for every statement that has hypotheses. -/
namespace Sys2Proof.Tests

open Sys2Proof.Machine

/-! ## Small states -/

/-- "P1". -/
def p1 : Bytes := [0x50#8, 0x31#8]

/-- `[DATA(0, "P1")]`, as 95_test_vectors.md section 0 writes it. -/
def data0P1 : Bytes := [0x00#8, 0x00#8, 0x00#8, 0x02#8, 0x5D#8, 0x70#8, 0x50#8, 0x31#8]

/-- `[DATA(1, "B")]`. -/
def data1B : Bytes := [0x00#8, 0x01#8, 0x00#8, 0x01#8, 0xAA#8, 0x5C#8, 0x42#8]

/-- `[ACK(0)]`. -/
def ack0 : Bytes := [0x01#8, 0x00#8, 0x00#8, 0x00#8, 0x4B#8, 0xB0#8]

/-- `[ACK(1)]`. -/
def ack1 : Bytes := [0x01#8, 0x01#8, 0x00#8, 0x00#8, 0xE1#8, 0xE1#8]

/-- An Originator after BOOT. -/
def originator : State := { State.reset with booted := true, orig := true, intakeEn := true, nodeId := 1#16 }

/-- A Receiver after BOOT. -/
def receiver : State := { State.reset with booted := true, nodeId := 3#16 }

/-- An Originator after HS1: in WAIT_ACK with "P1". -/
def waiting : State :=
  { originator with
    sndWait := true, intakeEn := false, tmrActive := true, tmrGen := 1#32, bufLen := 2#16, bufData := p1 }

/-- A router after BOOT. -/
def router : State := { State.reset with booted := true, role := .router, nodeId := 2#16 }

/-- A router after RT1: it holds "P1". -/
def fullRouter : State :=
  { router with
    frameexpected := 1#1, bufFull := true, tmrActive := true, tmrGen := 1#32, bufLen := 2#16, bufData := p1 }

/-- `s` with REACK_DUPLICATES = 1. -/
def reacking (s : State) : State := { s with config := { s.config with reackDuplicates := true } }

/-- The reference parameters with MAX_MSG = 2. -/
def small : Config := { Config.reference with maxMsg := 2, maxMsg_pos := by decide, maxMsg_le := by decide }

/-- `s` with one event delivered. -/
def given (e : Event) (s : State) : State := { s with inbox := [e] }

/-- The next state, if there is one. -/
def nextOf : Outcome → Option State
  | .next t => some t
  | _       => none

/-- The reason of a refusal, if it is one. -/
def refusalOf : Outcome → Option Refusal
  | .refused r => some r
  | _          => none

theorem eq_next_of_nextOf {o : Outcome} {t : State} (h : nextOf o = some t) : o = .next t := by
  cases o with
  | next u => cases h; rfl
  | fault r => cases h
  | refused r => cases h

/-- The state after one step, where there is one. -/
def after (s : State) : State := (nextOf (step s)).getD s

/-- A step that ends in a next state is a transition. -/
theorem transition_after {s : State} {e : Event} {rest : List Event} (hk : s.keyPort = none) (hi : s.inbox = e :: rest)
    (hs : (nextOf (step s)).isSome = true) : Transition s e (after s) := by
  refine ⟨hk, ⟨rest, hi⟩, ?_⟩
  unfold after
  cases h : step s with
  | next t => rfl
  | fault r => rw [h] at hs; cases hs
  | refused r => rw [h] at hs; cases hs

/-! ## WellFormed refuses ill-formed terms -/

theorem test_wellFormed_hData : Instr.wellFormed small (.hData 0#1 [0#8, 0#8, 0#8]) = false := by decide
theorem test_wellFormed_hSend : Instr.wellFormed small (.hSend [0#8, 0#8, 0#8]) = false := by decide
theorem test_wellFormed_rData : Instr.wellFormed small (.rData 0#1 [0#8, 0#8, 0#8]) = false := by decide
theorem test_wellFormed_encode_ack_payload : Instr.wellFormed small (.encode .ack 0#1 [0#8]) = false := by decide
theorem test_wellFormed_encode_oversize : Instr.wellFormed small (.encode .data 0#1 [0#8, 0#8, 0#8]) = false := by decide
theorem test_wellFormed_timerStart_short : Instr.wellFormed small (.timerStart 1 5) = false := by decide
theorem test_wellFormed_timerStart_long : Instr.wellFormed small (.timerStart 1 9) = false := by decide
theorem test_wellFormed_admits :
    (Instr.wellFormed small (.hData 0#1 [0#8, 0#8]) && Instr.wellFormed small (.encode .ack 0#1 []) && Instr.wellFormed small (.timerStart 1 6) && Instr.wellFormed small (.timerStart 1 8)) = true := by decide

/-! ## Decoding: the keys of 30_encoding.md R82, written out bit by bit -/

theorem test_decode_boot : decodeTableWord 8 0b00000000 = some (.boot { role := .host, orig := false, nodeId := 0#16 }) := by
  decide
theorem test_decode_boot_role_ignored :
    decodeTableWord 8 0b00010000 = some (.boot { role := .host, orig := false, nodeId := 0#16 }) := by decide
theorem test_decode_hData : decodeTableWord 8 0b00000001 = some (.hData 0#1 []) := by decide
theorem test_decode_hTimeout : decodeTableWord 8 0b00000010 = some .hTimeout := by decide
theorem test_decode_hSend : decodeTableWord 8 0b00000011 = some (.hSend []) := by decide
theorem test_decode_diag : decodeTableWord 8 0b00000100 = some .diag := by decide
theorem test_decode_diag_role_ignored : decodeTableWord 8 0b00010100 = some .diag := by decide
theorem test_decode_hAck : decodeTableWord 8 0b00001001 = some (.hAck 0#1) := by decide
theorem test_decode_rData : decodeTableWord 8 0b00010001 = some (.rData 0#1 []) := by decide
theorem test_decode_rTimeout : decodeTableWord 8 0b00010010 = some .rTimeout := by decide
theorem test_decode_rPayload : decodeTableWord 8 0b00010011 = some (.rPayload []) := by decide
theorem test_decode_rAck : decodeTableWord 8 0b00011001 = some (.rAck 0#1) := by decide
theorem test_decode_encode : decodeTableWord 8 0b11100000 = some (.encode .data 0#1 []) := by decide
theorem test_decode_validate : decodeTableWord 8 0b11100001 = some (.validate []) := by decide
theorem test_decode_timerStart : decodeTableWord 8 0b11100010 = some (.timerStart 0 0) := by decide
theorem test_decode_timerCancel : decodeTableWord 8 0b11100011 = some .timerCancel := by decide
theorem test_decode_timerExpire : decodeTableWord 8 0b11100100 = some (.timerExpire 0#32) := by decide

/-- One reserved key of each reason of 30_encoding.md R83. -/
theorem test_decode_reserved :
    [0b00100000#8, 0b00001000#8, 0b00000101#8, 0b11101000#8, 0b11100101#8].map (fun k => (opOfKey k, reservedReason k)) =
      [(none, .badClass), (none, .badKind), (none, .badEvt), (none, .badUnit), (none, .badUnit)] := by decide

/-- Fifteen operations take 17 of the 256 keys: BOOT and DIAG take two each. -/
theorem test_decode_count : ((List.range 256).filter fun k => (opOfKey (BitVec.ofNat 8 k)).isSome).length = 17 := by
  decide +kernel

/-! ## The codec: INTEGRITY, ENCODE, VALIDATE -/

/-- I1, I2, I3, I4. -/
theorem test_integrity :
    [[0x31#8, 0x32#8, 0x33#8, 0x34#8, 0x35#8, 0x36#8, 0x37#8, 0x38#8, 0x39#8], [], [0x00#8],
      [0x01#8, 0x00#8, 0x00#8, 0x00#8, 0x00#8, 0x00#8]].map (integrity crcCcittFalse) =
      [0x29B1#16, 0xFFFF#16, 0xE1F0#16, 0x4BB0#16] := by decide +kernel

/-- Three other CRCs of 16 bits over "123456789": XMODEM, ARC and X-25 (their published check values; PRESUMED, no values of
the spec). -/
theorem test_integrity_substituted :
    let digits : Bytes := [0x31#8, 0x32#8, 0x33#8, 0x34#8, 0x35#8, 0x36#8, 0x37#8, 0x38#8, 0x39#8]
    (integrity { crcCcittFalse with initialValue := 0x0000#16 } digits,
      integrity { polynomial := 0x8005#16, initialValue := 0x0000#16, inputReflected := true, outputReflected := true,
                  finalXor := 0x0000#16, polynomial_odd := by decide } digits,
      integrity { crcCcittFalse with inputReflected := true, outputReflected := true, finalXor := 0xFFFF#16 } digits) =
      (0x31C3#16, 0xBB3D#16, 0x906E#16) := by decide +kernel

/-- The values of 00_scope.md R10 that are not OPEN. -/
theorem test_reference_specValues : Config.reference.SpecValues := ⟨rfl, rfl, rfl, rfl, rfl, rfl, rfl, rfl⟩

/-- E1, E7, E6, and the frame `[DATA(1, "B")]`. -/
theorem test_encode_bytes :
    let frame := frameBytes Config.reference
    [frame .ack 0#1 [], frame .ack 1#1 [], frame .data 0#1 p1, frame .data 1#1 [0x42#8],
      frame .data 0#1 [0xFF#8, 0xFF#8, 0xFF#8, 0xFF#8]] =
      [ack0, ack1, data0P1, data1B,
        [0x00#8, 0x00#8, 0x00#8, 0x04#8, 0xB9#8, 0x30#8, 0xFF#8, 0xFF#8, 0xFF#8, 0xFF#8]] := by decide +kernel

/-- E8: LEN = 0x0040 is big-endian. -/
theorem test_encode_at_the_limit :
    (frameBytes Config.reference .data 0#1 (List.replicate 64 0x00#8)).take 6 = [0x00#8, 0x00#8, 0x00#8, 0x40#8, 0x9A#8, 0xBC#8] := by
  decide +kernel

/-- E9 and E10. -/
theorem test_encode_refused :
    (refusalOf (execEncode .data 0#1 (List.replicate 65 0x00#8) State.reset),
      refusalOf (execEncode .ack 0#1 [0x58#8] State.reset)) =
      (some .encodeOversize, some .encodeAckPayload) := by decide +kernel

/-- V1, V2, V6, V8, V10, V11, V12, V13. -/
theorem test_validate_discards :
    [[], [0x01#8, 0x00#8, 0x00#8, 0x00#8, 0x4B#8], [0x00#8, 0x00#8, 0x00#8, 0x02#8, 0x5D#8, 0x70#8, 0x50#8, 0x30#8],
      data0P1 ++ [0x00#8], [0x00#8, 0x00#8, 0x00#8, 0x02#8, 0x46#8, 0x53#8, 0x50#8],
      [0x02#8, 0x00#8, 0x00#8, 0x00#8, 0x85#8, 0x50#8], [0x00#8, 0x02#8, 0x00#8, 0x00#8, 0x4A#8, 0x93#8],
      [0x01#8, 0x00#8, 0x00#8, 0x01#8, 0xE4#8, 0xE6#8, 0x58#8]].map (validateFrame Config.reference) =
      [.discard .short, .discard .short, .discard .checksum, .discard .checksum, .discard .length, .discard .format,
        .discard .format, .discard .format] := by decide +kernel

/-- V3, V4, V5, V14, and V15, which is one byte over the limit. -/
theorem test_validate_accepts :
    [ack0, [0x00#8, 0x00#8, 0x00#8, 0x00#8, 0x0E#8, 0x10#8], data1B,
      [0x00#8, 0x00#8, 0x00#8, 0x40#8, 0x9A#8, 0xBC#8] ++ List.replicate 64 0x00#8,
      [0x00#8, 0x00#8, 0x00#8, 0x41#8, 0xA4#8, 0x04#8] ++ List.replicate 65 0x00#8].map (validateFrame Config.reference) =
      [.valid .ack 0#1 [], .valid .data 0#1 [], .valid .data 1#1 [0x42#8], .valid .data 0#1 (List.replicate 64 0x00#8),
        .discard .format] := by decide +kernel

/-- VALIDATE by its key returns its answer and writes nothing else. -/
theorem test_validate_writes_nothing :
    nextOf (execValidate data1B receiver) = some { receiver with result := some (.validated (.valid .data 1#1 [0x42#8])) } := by
  decide +kernel

/-! ## The timer arbiter -/

/-- T1, T2, T3: durations at sizes 8, 6 and 70. -/
theorem test_timerStart_durations :
    [timeoutUs Config.reference 1 8, timeoutUs Config.reference 2 6, timeoutUs Config.reference 1 70] =
      [10926, 10071, 37500] := by decide

/-- T4 and T5: a running timer is superseded, and the tag wraps. -/
theorem test_timerStart_supersedes_and_wraps :
    ((timerStart 1 7 { receiver with tmrActive := true, tmrGen := 4#32 }).actions,
      (timerStart 1 7 { receiver with tmrGen := 0xFFFFFFFF#32 }).actions) =
      ([.tcancel 4#32, .tstart 5#32 10500], [.tstart 0#32 10500]) := by decide

/-- With GEN_W = 1 the tags are 0 and 1 in turn. -/
theorem test_timerStart_tag_width :
    (timerStart 1 7 { receiver with
      config := { Config.reference with genW := 1, genW_pos := by decide, genW_le := by decide }, tmrGen := 1#32 }).tmrGen =
      0#32 := by decide

/-- T6 and T7. -/
theorem test_timerCancel :
    ((timerCancel { receiver with tmrActive := true, tmrGen := 3#32 }).actions,
      nextOf (execTimerCancel { receiver with tmrGen := 3#32 })) =
      ([.tcancel 3#32], some { receiver with tmrGen := 3#32 }) := by decide

/-- T8 to T11: accepted, superseded, cancelled, from the future. -/
theorem test_timerExpire :
    let running : State := { receiver with tmrActive := true, tmrGen := 2#32 }
    (expiryAccepted 2#32 running, expiryAccepted 1#32 running, expiryAccepted 2#32 { running with tmrActive := false },
      expiryAccepted 3#32 running) = (true, false, false, false) := by decide

/-! ## The host engine -/

/-- HS1. -/
theorem test_hSend_actions :
    (nextOf (execHSend p1 originator)).map (·.actions) =
      some [.send 1 data0P1, .tstart 1#32 10926, .intake false] := by decide +kernel

/-- HS1: the state. -/
theorem test_hSend_state :
    (nextOf (execHSend p1 originator)).map (fun t => { t with actions := [] }) = some waiting := by decide +kernel

/-- HS4. -/
theorem test_hAck_match :
    (nextOf (execHAck 0#1 waiting)).map (fun t => (t.actions, t.ackexpected, t.nextframetosend, t.sndWait, t.intakeEn)) =
      some ([.tcancel 1#32, .intake true], 1#1, 1#1, false, true) := by decide

/-- HS5 and HS6. -/
theorem test_hAck_ignored :
    (nextOf (execHAck 1#1 waiting), nextOf (execHAck 0#1 originator)) =
      (some { waiting with status := 0x12#8 }, some { originator with status := 0x13#8 }) := by decide

/-- HS7. -/
theorem test_hTimeout_retransmits :
    (nextOf (execHTimeout (timerFired waiting))).map (·.actions) =
      some [.send 1 data0P1, .tstart 2#32 10926] := by decide +kernel

/-- HS11. -/
theorem test_hData_delivers :
    (nextOf (execHData 0#1 p1 receiver)).map (fun t => (t.actions, t.frameexpected)) =
      some ([.deliver p1, .send 1 ack0], 1#1) := by decide +kernel

/-- HS14, and HS13's re-acknowledgement. -/
theorem test_hData_mismatch :
    (nextOf (execHData 1#1 p1 receiver), (nextOf (execHData 1#1 p1 (reacking receiver))).map fun t => (t.actions, t.status)) =
      (some { receiver with status := 0x10#8 }, some ([.send 1 ack1], 0x08#8)) := by decide +kernel

/-! ## The router engine -/

/-- RT1: the acknowledgement goes upstream before the frame goes downstream. -/
theorem test_rData_forwards :
    (nextOf (execRData 0#1 p1 router)).map (fun t => (t.actions, { t with actions := [] })) =
      some ([.send 1 ack0, .send 2 data0P1, .tstart 1#32 10926], fullRouter) := by decide +kernel

/-- RT2, also with re-acknowledgement on. -/
theorem test_rData_busy :
    (nextOf (execRData 1#1 [0x42#8] fullRouter), (nextOf (execRData 0#1 p1 (reacking fullRouter))).map (·.actions)) =
      (some { fullRouter with status := 0x11#8 }, some []) := by decide +kernel

/-- RT3, and RT9: at an empty router the bit flips too. -/
theorem test_rAck_match :
    ((nextOf (execRAck 0#1 fullRouter)).map (fun t => (t.actions, t.ackexpected, t.bufFull, t.tmrActive)),
      (nextOf (execRAck 0#1 router)).map (fun t => (t.actions, t.ackexpected))) =
      (some ([.tcancel 1#32], 1#1, false, false), some ([], 1#1)) := by decide

/-- RT4. -/
theorem test_rAck_mismatch : nextOf (execRAck 1#1 fullRouter) = some { fullRouter with status := 0x12#8 } := by decide

/-- RT5. -/
theorem test_rTimeout_retransmits :
    (nextOf (execRTimeout (timerFired fullRouter))).map (·.actions) =
      some [.send 2 data0P1, .tstart 2#32 10926] := by decide +kernel

/-- A timeout rule reached in IDLE or with the buffer empty is refused (42_host.md R143, 43_router.md R162). -/
theorem test_timeouts_refused :
    (refusalOf (execHTimeout originator), refusalOf (execRTimeout router)) =
      (some .timeoutWhileIdle, some .timeoutWhileEmpty) := by decide

/-- RT12. -/
theorem test_rPayload_faults :
    nextOf (execRPayload [0x58#8] router) = some { router with fault := 0x04#8, status := 0x22#8 } := by decide

/-! ## BOOT, DIAG and the dispatcher -/

/-- DP12: the running timer is released, and a router ignores the originator flag. -/
theorem test_boot_rerole :
    (nextOf (execBoot { role := .router, orig := true, nodeId := 9#16 } { waiting with tmrGen := 5#32 })).map
      (fun t => (t.actions, { t with actions := [] })) =
      some ([.tcancel 5#32], { router with nodeId := 9#16 }) := by decide

/-- DP11 and DP4. -/
theorem test_boot_host :
    ((nextOf (execBoot { role := .host, orig := false, nodeId := 9#16 } { originator with fault := 0x02#8 })).map
        (fun t => (t.actions, t.fault)),
      (nextOf (execBoot { role := .host, orig := true, nodeId := 1#16 } State.reset)).map (portRead 0)) =
      (some ([.intake false], 0x02#8), some 0x00010005#32) := by decide

/-- DG5. -/
theorem test_diag_text :
    diagText { router with ackexpected := 1#1, frameexpected := 1#1 } =
      "ackexpected=1 nextframetosend=0 frameexpected=1".toList := by decide

/-- DIAG leaves the fault register as it was. -/
theorem test_diag_state :
    (nextOf (execDiag { waiting with fault := 0x02#8, status := 0x21#8 })).map (fun t => { t with actions := [] }) =
      some { waiting with fault := 0x02#8 } := by decide

/-- DP1, DP2, DP3: not-booted is checked before VALIDATE. -/
theorem test_dispatch_unbooted :
    [Event.payload [0x58#8], .frame 1 ack0, .diag].map (fun e => (nextOf (step (given e State.reset))).map
      (fun t => (t.fault, t.status, t.actions))) =
      List.replicate 3 (some (0x01#8, 0x20#8, [])) := by decide +kernel

/-- DP7, DP8, DP9, DP10. -/
theorem test_dispatch_payload_faults :
    [given (.payload [0x58#8]) receiver, given (.payload p1) waiting, given (.payload (List.replicate 65 0x00#8)) originator,
      given (.payload (List.replicate 65 0x00#8)) router].map (fun s => (nextOf (step s)).map (fun t => (t.fault, t.status))) =
      [some (0x02#8, 0x21#8), some (0x02#8, 0x21#8), some (0x08#8, 0x23#8), some (0x04#8, 0x22#8)] := by decide +kernel

/-- HS17, DP13 and HS8. -/
theorem test_dispatch_frames_and_timers :
    ((nextOf (step (given (.frame 7 data0P1) receiver))).map (·.actions),
      (nextOf (step (given (.frame 1 [0x02#8, 0x00#8, 0x00#8, 0x00#8, 0x85#8, 0x50#8]) receiver))).map (·.status),
      (nextOf (step (given (.timer 0#32) waiting))).map (·.status)) =
      (some [.deliver p1, .send 1 ack0], some 0x04#8, some 0x14#8) := by decide +kernel

/-- A key word handed to the core is run, and a reserved one is refused. -/
theorem test_step_runs_the_handed_key :
    ((nextOf (step (State.reset.withFetchWord 8 0b00000100))).map (·.actions),
      refusalOf (step (State.reset.withFetchWord 8 0b00000101))) =
      (some [.diagtext "ackexpected=0 nextframetosend=0 frameexpected=0".toList], some (.reservedKey 0x05#8 .badEvt)) := by
  decide

/-- Node A at the end of program P1: the words of the observation port. -/
theorem test_port_words :
    let s : State := { originator with
      ackexpected := 1#1, nextframetosend := 1#1, tmrGen := 3#32, bufLen := 2#16, bufData := [0x50#8, 0x33#8] }
    [0, 1, 2, 3, 4, 5, 6].map (fun a => portRead a s) =
      [0x00010005#32, 0x00000003#32, 0x00020002#32, 0x00000003#32, 0#32, 0#32, 0#32] := by decide

/-- A read beyond `buf_len` is refused (20_memory.md R54). -/
theorem test_readBuffer_bound :
    (readBuffer 1 1 waiting).toOption = some [0x31#8] ∧ (readBuffer 1 2 waiting).toOption = none := by decide

/-! ## The script notation -/

/-- Lines of programs P2 and P4. -/
theorem test_script_lines :
    [readLine "A: BOOT role=HOST orig=1 id=1          => INTAKE(1)".toList,
      readLine "R: EXPIRE gen=1                       => TSTART(2, 10926)".toList,
      readLine "   LOST SEND(2, 00 00) of step 7".toList, readLine "; wiring".toList,
      readLine "N: PAYLOAD \"X\"".toList, readLine "B: RXDATA link=1 0, \"P1\"".toList, readLine "B: RXACK link=2 1".toList] =
      [some (.event ['A'] (.boot { role := .host, orig := true, nodeId := 1#16 })), some (.event ['R'] (.expire 1#32)),
        some .lost, some .comment, some (.event ['N'] (.payload [0x58#8])),
        some (.event ['B'] (.rxData 1 0#1 p1)), some (.event ['B'] (.rxAck 2 1#1))] := by decide +kernel

/-- Lines of programs P2 and P4 with step numbers, and actions on lines of their own. -/
theorem test_script_program_lines :
    [readLine " 9 A: EXPIRE gen=2                        =>                                  ; status 0x14".toList,
      readLine " 5 R: RXBAD link=1 01 00 =>                 ; status 0x02".toList,
      readLine "                TSTART(1, 10926)".toList, readLine "            DELIVER(\"P1\")".toList,
      readLine " ; the link corrupts".toList, readLine "12".toList] =
      [some (.event ['A'] (.expire 2#32)), some (.event ['R'] (.rxBad 1 [1#8, 0#8])), some .action, some .action,
        some .comment, none] := by decide +kernel

/-- Pseudo-events expand to frames, and an action is written in its form. -/
theorem test_script_expansions :
    ((ScriptItem.rxData 1 0#1 p1).event Config.reference, (ScriptItem.rxAck 2 1#1).event Config.reference,
      String.ofList (writeAction (.send 1 ack0))) =
      (Event.frame 1 data0P1, Event.frame 2 ack1, "SEND(1, 01 00 00 00 4B B0)") := by decide +kernel

/-! ## The chain -/

/-- The configuration of the left host, the Originator. -/
def bootA : BootCfg := { role := .host, orig := true, nodeId := 1#16 }

/-- The configuration of the right host. -/
def bootB : BootCfg := { role := .host, orig := false, nodeId := 3#16 }

/-- Two hosts at power-on. -/
def pair : Chain := Chain.powerOn [Config.reference, Config.reference]

/-- The moves of one loss-free delivery: boot, offer, frame, acknowledgement. -/
def delivery : List Move := [.payload 0 p1, .frame 0, .frame 1]

/-- A pair of hosts after a list of moves; the pair at power-on where a move is not one of the environment. -/
def pairAfter (ms : List Move) : Chain := (pair.run (.boot 0 bootA :: .boot 1 bootB :: ms)).getD pair

/-- W6 without the router. -/
theorem test_chain_delivers :
    ((pairAfter delivery).nodes.map (·.delivered), (pairAfter delivery).wire.map (·.bytes)) =
      ([[], [p1]], [data0P1, ack0]) := by decide +kernel

/-- The wiring of a chain of three (70_reset_and_hazards.md R233). -/
theorem test_chain_wiring :
    [(0, 1), (1, 1), (1, 2), (2, 1), (2, 2)].map (fun e => linkPeer (List.replicate 3 Config.reference) e.1 e.2) =
      [some (1, 1), some (0, 1), some (2, 1), some (1, 2), none] := by decide

/-- "BOOT before any other event" (44_dispatcher.md R190), at every node (70_reset_and_hazards.md R233). -/
theorem test_chain_boots_first :
    ((pair.run [.boot 0 bootA, .diag 0]).isSome, (pair.run [.boot 0 bootA, .boot 1 bootB, .diag 0]).isSome) =
      (false, true) := by decide +kernel

/-- A node is booted again with another configuration (44_dispatcher.md R187), and "exactly one Originator" is kept (R190):
two are never booted, and with none left no run-time event comes. -/
theorem test_chain_reboots :
    let demoted : Move := .boot 0 { bootA with orig := false }
    let promoted : Move := .boot 1 { bootB with orig := true }
    [[promoted], [.boot 1 { bootB with role := .router }], [demoted], [demoted, .diag 1],
      [demoted, promoted, .diag 1]].map (fun ms => (pair.run (.boot 0 bootA :: .boot 1 bootB :: ms)).isSome) =
      [false, false, true, false, true] := by decide +kernel

/-- Which deployments keep the duty of 44_dispatcher.md R190: one Originator, at the upstream end of a router. -/
theorem test_deployments :
    let host (o : Bool) : BootCfg := { role := .host, orig := o, nodeId := 0#16 }
    let relay : BootCfg := { role := .router, orig := false, nodeId := 0#16 }
    [legalDeployment [host true, relay, host false], legalDeployment [host false, relay, host true],
      legalDeployment [host false, host true], legalDeployment [host true, host true], legalDeployment [host true],
      legalDeployment [relay, host true]] = [true, false, true, false, false, false] := by decide

/-! ## Witnesses: states that meet the hypotheses of the statements -/

theorem reset_legal : State.reset.Legal :=
  ⟨rfl, ⟨rfl, by decide⟩, by unfold State.tagLegal; decide, (by show _ = _; decide), ⟨.ok, rfl⟩, fun _ => by unfold State.hostLegal; decide, nofun,
    fun _ => by unfold State.powerOnLegal; decide⟩

theorem originator_legal : originator.Legal :=
  ⟨rfl, ⟨rfl, by decide⟩, by unfold State.tagLegal; decide, (by show _ = _; decide), ⟨.ok, rfl⟩, fun _ => by unfold State.hostLegal; decide, nofun, nofun⟩

theorem waiting_legal : waiting.Legal :=
  ⟨rfl, ⟨rfl, by decide⟩, by unfold State.tagLegal; decide, (by show _ = _; decide), ⟨.ok, rfl⟩, fun _ => by unfold State.hostLegal; decide, nofun, nofun⟩

theorem router_legal : router.Legal :=
  ⟨rfl, ⟨rfl, by decide⟩, by unfold State.tagLegal; decide, (by show _ = _; decide), ⟨.ok, rfl⟩, nofun, fun _ => by unfold State.routerLegal; decide, nofun⟩

theorem fullRouter_legal : fullRouter.Legal :=
  ⟨rfl, ⟨rfl, by decide⟩, by unfold State.tagLegal; decide, (by show _ = _; decide), ⟨.ok, rfl⟩, nofun, fun _ => by unfold State.routerLegal; decide, nofun⟩

theorem given_legal {e : Event} {s : State} (h : s.Legal) : (given e s).Legal :=
  ⟨h.noKey, h.buffer, h.tag, h.fault, h.status, h.host, h.router, h.unbooted⟩

/-! ### Reset, dispatch and the step -/

/-- PowerOnIsAllZeroAndRunTimeEventsFault, and the first clause of RunTimeEventsRunTheirOperation. -/
theorem witness_unbooted :
    let s := given .diag State.reset
    s.booted = false ∧ s.keyPort = none ∧ s.inbox = [.diag] ∧ Event.diag.runTime = true := by decide

/-- BootResetsEveryFieldButFault. -/
theorem witness_boot :
    let s := given (.boot { role := .router, orig := true, nodeId := 9#16 }) waiting
    s.keyPort = none ∧ s.inbox = [.boot { role := .router, orig := true, nodeId := 9#16 }] := by decide

/-- RunTimeEventsRunTheirOperation: a discarded and a legal frame, an accepted expiry, a stale one of each kind. -/
theorem witness_dispatch :
    (receiver.booted = true ∧ validateFrame receiver.config (ack0.take 5) = .discard .short) ∧
    (validateFrame receiver.config data0P1 = .valid .data 0#1 p1) ∧
    (validateFrame router.config ack0 = .valid .ack 0#1 []) ∧
    (waiting.booted = true ∧ waiting.tmrActive = true ∧ 1#32 = waiting.tmrGen) ∧
    (0#32 ≠ waiting.tmrGen) ∧ receiver.tmrActive = false ∧
    (originator.intakeEn = true ∧ p1.length ≤ originator.config.maxMsg) ∧ router.role = .router ∧
    (given (.payload p1) originator).inbox = [.payload p1] ∧ (given .diag router).inbox = [.diag] := by decide +kernel

/-- PayloadAdmissionChecksInOrder and KeyedSendFaultsOutsideItsPrecondition, each clause, at both sides of MAX_MSG. -/
theorem witness_admission :
    (router.booted = true ∧ router.role = .router) ∧ (receiver.booted = true ∧ receiver.role = .host ∧ receiver.intakeEn = false) ∧
    (originator.booted = true ∧ originator.role = .host ∧ originator.intakeEn = true ∧
      originator.config.maxMsg < (List.replicate 65 (0x00#8 : Byte)).length ∧
      (List.replicate 64 (0x00#8 : Byte)).length ≤ originator.config.maxMsg) := by decide

/-- LinksAreFixedByRoleAndKind: a host and a router that send (its clause on R10's values: test_reference_specValues). -/
theorem witness_links :
    (receiver.keyPort = none) ∧
    (Transition (given (.frame 1 data0P1) receiver) (.frame 1 data0P1) (after (given (.frame 1 data0P1) receiver)) ∧
      .send 1 ack0 ∈ (after (given (.frame 1 data0P1) receiver)).actions) ∧
    (Transition (given (.frame 1 data0P1) router) (.frame 1 data0P1) (after (given (.frame 1 data0P1) router)) ∧
      .send 1 ack0 ∈ (after (given (.frame 1 data0P1) router)).actions ∧
      .send 2 data0P1 ∈ (after (given (.frame 1 data0P1) router)).actions) :=
  ⟨rfl, ⟨transition_after rfl rfl (by decide +kernel), by decide +kernel⟩,
    ⟨transition_after rfl rfl (by decide +kernel), by decide +kernel, by decide +kernel⟩⟩

/-- StepRunsTheDecodedOperation: a key with a row and a reserved one. -/
theorem witness_key :
    (State.reset.withFetchWord 8 0b11100011).keyPort = some { key := 0xE3#8 } ∧
    decode { key := 0xE3#8 } = .ok .timerCancel ∧ decode { key := 0xE5#8 } = .error .badUnit :=
  ⟨by decide, decode_of_op (op := .timerCancel) (by decide) {}, decode_of_none (by decide) {}⟩

/-- NodeHoldsItsStateBetweenEvents. -/
theorem witness_idle : waiting.keyPort = none ∧ waiting.inbox = [] := by decide

/-! ### The engines -/

/-- HostSendStartsWaiting, at both ends of the length. -/
theorem witness_hSend :
    originator.role = .host ∧ originator.intakeEn = true ∧ ([] : Bytes).length ≤ originator.config.maxMsg ∧
    (List.replicate 64 (0x00#8 : Byte)).length ≤ originator.config.maxMsg := by decide

/-- HostAckReturnsToIdleOnlyOnAMatch. -/
theorem witness_hAck :
    originator.sndWait = false ∧ waiting.sndWait = true ∧ 1#1 ≠ waiting.ackexpected ∧ 0#1 = waiting.ackexpected := by decide

/-- HostTimeoutRetransmitsTheSameFrame. -/
theorem witness_hTimeout : (waiting.sndWait = true ∧ waiting.bufferLegal) ∧ originator.sndWait = false :=
  ⟨⟨rfl, waiting_legal.buffer⟩, rfl⟩

/-- HostDataDeliversOnlyTheExpectedBit. -/
theorem witness_hData :
    0#1 = receiver.frameexpected ∧ 1#1 ≠ receiver.frameexpected ∧ receiver.config.reackDuplicates = false ∧
    (reacking receiver).config.reackDuplicates = true ∧ 1#1 ≠ (reacking receiver).frameexpected := by decide

/-- RouterDataForwardsOnlyIntoAnEmptyBuffer and KeyedRouterDataOverMaxMsgIsRefused. -/
theorem witness_rData :
    fullRouter.bufFull = true ∧ router.bufFull = false ∧ 1#1 ≠ router.frameexpected ∧ 0#1 = router.frameexpected ∧
    (reacking router).config.reackDuplicates = true ∧ (reacking router).bufFull = false ∧
    router.config.reackDuplicates = false ∧ (List.replicate 64 (0x00#8 : Byte)).length ≤ router.config.maxMsg ∧
    router.config.maxMsg < (List.replicate 65 (0x00#8 : Byte)).length := by decide

/-- RouterAckReleasesTheBufferOnAMatch. -/
theorem witness_rAck : 1#1 ≠ fullRouter.ackexpected ∧ 0#1 = fullRouter.ackexpected := by decide

/-- RouterTimeoutRetransmitsTheBufferedFrame. -/
theorem witness_rTimeout : (fullRouter.bufFull = true ∧ fullRouter.bufferLegal) ∧ router.bufFull = false :=
  ⟨⟨rfl, fullRouter_legal.buffer⟩, rfl⟩

/-! ### The codec, the keys and the timer -/

/-- EncodeBuildsTheFrameOrRefuses, at both sides of MAX_MSG. -/
theorem witness_encode :
    ((List.replicate 64 (0x00#8 : Byte)).length ≤ receiver.config.maxMsg ∧ (Kind.data = .ack → List.replicate 64 (0x00#8 : Byte) = [])) ∧
    ([0x58#8] : Bytes) ≠ [] ∧ receiver.config.maxMsg < (List.replicate 65 (0x00#8 : Byte)).length := by decide

/-- DecodingAnEncodedFrameGivesItBack, at a payload of exactly MAX_MSG bytes, and an ACK. -/
theorem witness_round_trip :
    (p1.length ≤ small.maxMsg ∧ small.maxMsg ≤ p1.length ∧ (Kind.data = .ack → p1 = [])) ∧
    (([] : Bytes).length ≤ small.maxMsg ∧ (Kind.ack = .ack → ([] : Bytes) = [])) := by decide

/-- AnAcceptedStringIsTheFrameOfItsFields. -/
theorem witness_accepted : validateFrame Config.reference data1B = .valid .data 1#1 [0x42#8] := by decide +kernel

/-- LegalFramesAreTheAcceptedStrings: a booted node at which the empty string arrives. -/
theorem witness_illegal :
    let s := given (.frame 1 []) receiver
    s.config = Config.reference ∧ ¬ legalFrame Config.reference [] ∧ s.booted = true ∧ s.keyPort = none ∧
      s.inbox = [.frame 1 []] :=
  ⟨rfl, fun h => absurd h.1 (by decide), rfl, rfl, rfl⟩

/-- EverySingleBitErrorIsDetected, at the last bit of the last byte. -/
theorem witness_single_bit : legalFrame Config.reference data0P1 ∧ 7 < data0P1.length ∧ 7 < 8 := by decide +kernel

/-- BootResetsEveryFieldButFault and DiagReturnsTheThreeBits: both keys. -/
theorem witness_two_keys : (0x10#8 = 0x00#8 ∨ 0x10#8 = 0x10#8) ∧ (0x14#8 = 0x04#8 ∨ 0x14#8 = 0x14#8) := by decide

/-- ObservationPortShowsEveryField: the first address that is not listed. -/
theorem witness_port : 5 < 6 := by decide

/-- TimerCancelStopsOnlyARunningTimer and TimerExpireAcceptsOnlyTheCurrentTag. -/
theorem witness_timer :
    waiting.tmrActive = true ∧ receiver.tmrActive = false ∧ 1#32 = waiting.tmrGen ∧ 2#32 ≠ waiting.tmrGen := by decide

/-- AnExpiryIsAcceptedAtMostOnce. -/
theorem witness_twice :
    let s : State := { waiting with inbox := [.timer 1#32, .timer 1#32] }
    s.booted = true ∧ s.keyPort = none ∧ s.inbox = [.timer 1#32, .timer 1#32] ∧ step s = .next (after s) :=
  ⟨rfl, rfl, rfl, (transition_after (e := .timer 1#32) rfl rfl (by decide +kernel)).2.2⟩

/-- OnlySentDataIsTimed and TagsCountTheTimersStarted. -/
theorem witness_timed :
    let s := given (.timer 1#32) fullRouter
    Transition s (.timer 1#32) (after s) ∧ .tstart 2#32 10926 ∈ (after s).actions ∧ (Event.timer 1#32).runTime = true :=
  ⟨transition_after rfl rfl (by decide +kernel), by decide +kernel, rfl⟩

/-- RetransmissionHasNoCeiling, for two expiries at a host, and at a router whose tag wraps. -/
theorem witness_retransmission :
    (let s : State := { waiting with inbox := [.timer 1#32, .timer 2#32, .diag] }
     s.Legal ∧ s.role = .host ∧ s.sndWait = true ∧
      s.inbox = (List.range 2).map (fun i => .timer (tagOf s.config (s.tmrGen.toNat + i))) ++ [.diag]) ∧
    (let s : State := { fullRouter with tmrGen := 0xFFFFFFFF#32, inbox := [.timer 0xFFFFFFFF#32, .timer 0#32] }
     s.Legal ∧ s.role = .router ∧ s.bufFull = true ∧
      s.inbox = (List.range 2).map (fun i => .timer (tagOf s.config (s.tmrGen.toNat + i))) ++ []) :=
  ⟨⟨⟨waiting_legal.noKey, waiting_legal.buffer, waiting_legal.tag, waiting_legal.fault, waiting_legal.status,
      waiting_legal.host, waiting_legal.router, waiting_legal.unbooted⟩, rfl, rfl, by decide⟩,
    ⟨fullRouter_legal.noKey, fullRouter_legal.buffer, by unfold State.tagLegal; decide, fullRouter_legal.fault,
      fullRouter_legal.status, fullRouter_legal.host, fullRouter_legal.router, nofun⟩, rfl, rfl,
    by decide⟩

/-! ### Whole-machine rules -/

/-- EveryStepKeepsTheInvariant and NothingStopsTheNode, at a host and at a router. -/
theorem witness_invariant :
    ((given (.payload p1) originator).Legal ∧ step (given (.payload p1) originator) = .next (after (given (.payload p1) originator))) ∧
    ((given (.frame 1 data0P1) router).Legal ∧ step (given (.frame 1 data0P1) router) = .next (after (given (.frame 1 data0P1) router))) :=
  ⟨⟨given_legal originator_legal, (transition_after (e := .payload p1) rfl rfl (by decide +kernel)).2.2⟩,
    ⟨given_legal router_legal, (transition_after (e := .frame 1 data0P1) rfl rfl (by decide +kernel)).2.2⟩⟩

/-- FaultBitsAreSticky: a BOOT with a fault recorded. -/
theorem witness_sticky :
    let s : State := given (.boot { role := .host, orig := false, nodeId := 0#16 }) { receiver with fault := 0x02#8 }
    step s = .next (after s) ∧ s.fault.getLsbD 1 = true :=
  ⟨(transition_after (e := .boot { role := .host, orig := false, nodeId := 0#16 }) rfl rfl (by decide +kernel)).2.2, by decide⟩

/-- DropsChangeOnlyTheStatus: a discard and an ignore. -/
theorem witness_drops :
    (Transition (given (.frame 1 []) receiver) (.frame 1 []) (after (given (.frame 1 []) receiver)) ∧
      (after (given (.frame 1 []) receiver)).recorded .discard) ∧
    (Transition (given (.timer 0#32) waiting) (.timer 0#32) (after (given (.timer 0#32) waiting)) ∧
      (after (given (.timer 0#32) waiting)).recorded .ignore) :=
  ⟨⟨transition_after rfl rfl (by decide +kernel), .dropShort, by decide +kernel, rfl⟩,
    ⟨transition_after rfl rfl (by decide +kernel), .ignStaleTimer, by decide +kernel, rfl⟩⟩

/-- FaultsChangeOnlyTheFaultBitAndStatus. -/
theorem witness_faults :
    let s := given (.payload [0x58#8]) router
    Transition s (.payload [0x58#8]) (after s) ∧ (after s).recorded .fault :=
  ⟨transition_after rfl rfl (by decide +kernel), .faultRole, by decide +kernel, rfl⟩

/-- OnlyBootWritesTheConfiguration and NoRunTimeEventReadsTheNodeId. -/
theorem witness_run_time :
    let s := given (.payload p1) originator
    Transition s (.payload p1) (after s) ∧ (Event.payload p1).runTime = true :=
  ⟨transition_after rfl rfl (by decide +kernel), rfl⟩

/-- SequenceBitsFlipOnlyOnAcceptedFrames, EveryIntakeChangeIsAnnounced: a matching ACK and an expected DATA. -/
theorem witness_flips :
    (Transition (given (.frame 1 ack0) waiting) (.frame 1 ack0) (after (given (.frame 1 ack0) waiting)) ∧
      (after (given (.frame 1 ack0) waiting)).ackexpected ≠ waiting.ackexpected ∧
      (after (given (.frame 1 ack0) waiting)).nextframetosend ≠ waiting.nextframetosend ∧
      (after (given (.frame 1 ack0) waiting)).intakeEn ≠ waiting.intakeEn) ∧
    (Transition (given (.frame 1 data0P1) router) (.frame 1 data0P1) (after (given (.frame 1 data0P1) router)) ∧
      (after (given (.frame 1 data0P1) router)).frameexpected ≠ router.frameexpected) :=
  ⟨⟨transition_after rfl rfl (by decide +kernel), by decide +kernel⟩,
    ⟨transition_after rfl rfl (by decide +kernel), by decide +kernel⟩⟩

/-- StatusCodesNameTheirCauses: an event for each code. -/
theorem witness_statuses :
    [given (.frame 1 []) receiver, given (.frame 1 (data0P1 ++ [0x00#8])) receiver,
      given (.frame 1 [0x00#8, 0x00#8, 0x00#8, 0x02#8, 0x46#8, 0x53#8, 0x50#8]) receiver,
      given (.frame 1 [0x02#8, 0x00#8, 0x00#8, 0x00#8, 0x85#8, 0x50#8]) receiver,
      given (.frame 1 data1B) (reacking receiver), given (.frame 1 data1B) receiver, given (.frame 1 data1B) fullRouter,
      given (.frame 1 ack1) waiting, given (.frame 1 ack0) originator, given (.timer 2#32) waiting,
      given .diag State.reset, given (.payload p1) receiver, given (.payload p1) router,
      given (.payload (List.replicate 65 0x00#8)) originator].map (fun s => (s.keyPort, (nextOf (step s)).map (·.status))) =
      [0x01#8, 0x02#8, 0x03#8, 0x04#8, 0x08#8, 0x10#8, 0x11#8, 0x12#8, 0x13#8, 0x14#8, 0x20#8, 0x21#8, 0x22#8, 0x23#8].map
        (fun c => (none, some c)) := by decide +kernel

/-- ControlBitsChangeOnlyAsTheirRulesSay: each bit set, and each bit cleared. -/
theorem witness_control_bits :
    [given (.payload p1) originator, given (.frame 1 ack0) waiting, given (.frame 1 data0P1) router,
      given (.frame 2 ack0) fullRouter].map (fun s => ((s.sndWait, s.intakeEn, s.bufFull, s.tmrActive),
        (nextOf (step s)).map fun t => (t.sndWait, t.intakeEn, t.bufFull, t.tmrActive))) =
      [((false, true, false, false), some (true, false, false, true)),
        ((true, false, false, true), some (false, true, false, false)),
        ((false, false, false, false), some (false, false, true, true)),
        ((false, false, true, true), some (false, false, false, false))] := by decide +kernel

/-- BufferIsOverwrittenOnlyWhenTheWindowAdvances: at a host and at a router. -/
theorem witness_buffer :
    ((given (.payload p1) originator).Legal ∧
      Transition (given (.payload p1) originator) (.payload p1) (after (given (.payload p1) originator)) ∧
      (after (given (.payload p1) originator)).bufData ≠ originator.bufData) ∧
    ((given (.frame 1 data0P1) router).Legal ∧
      Transition (given (.frame 1 data0P1) router) (.frame 1 data0P1) (after (given (.frame 1 data0P1) router)) ∧
      (after (given (.frame 1 data0P1) router)).bufLen ≠ router.bufLen) :=
  ⟨⟨given_legal originator_legal, transition_after rfl rfl (by decide +kernel), by decide +kernel⟩,
    ⟨given_legal router_legal, transition_after rfl rfl (by decide +kernel), by decide +kernel⟩⟩

/-- TheOutstandingFrameIsConstantWhileWaiting: a retransmission. -/
theorem witness_outstanding :
    let s := given (.timer 1#32) waiting
    s.Legal ∧ Transition s (.timer 1#32) (after s) ∧ s.role = .host ∧ s.sndWait = true ∧ (after s).sndWait = true ∧
      .send 1 data0P1 ∈ (after s).actions :=
  ⟨given_legal waiting_legal, transition_after rfl rfl (by decide +kernel), rfl, rfl, by decide +kernel, by decide +kernel⟩

/-- TheBufferedFrameIsConstantWhileFull: a retransmission, and the forward that fills the buffer. -/
theorem witness_buffered :
    let s := given (.timer 1#32) fullRouter
    let r := given (.frame 1 data0P1) router
    (s.Legal ∧ Transition s (.timer 1#32) (after s) ∧ s.role = .router ∧ s.bufFull = true ∧ (after s).bufFull = true ∧
      .send 2 data0P1 ∈ (after s).actions) ∧
    (r.Legal ∧ Transition r (.frame 1 data0P1) (after r) ∧ r.role = .router ∧ r.bufFull = false ∧
      (after r).bufFull = true) :=
  ⟨⟨given_legal fullRouter_legal, transition_after rfl rfl (by decide +kernel), rfl, rfl, by decide +kernel,
    by decide +kernel⟩,
   ⟨given_legal router_legal, transition_after rfl rfl (by decide +kernel), rfl, rfl, by decide +kernel⟩⟩

/-- RouterWindowsStayInStepUnlessASpuriousAckArrives: a forward, which is no spurious ACK, and a spurious ACK. -/
theorem witness_windows :
    ((given (.frame 1 data0P1) router).Legal ∧
      Transition (given (.frame 1 data0P1) router) (.frame 1 data0P1) (after (given (.frame 1 data0P1) router)) ∧
      (given (.frame 1 data0P1) router).windowsInStep ∧ ¬ spuriousAck (given (.frame 1 data0P1) router) (.frame 1 data0P1)) ∧
    ((given (.frame 2 ack0) router).Legal ∧
      Transition (given (.frame 2 ack0) router) (.frame 2 ack0) (after (given (.frame 2 ack0) router)) ∧
      (given (.frame 2 ack0) router).windowsInStep ∧ (given (.frame 2 ack0) router).booted = true ∧
      spuriousAck (given (.frame 2 ack0) router) (.frame 2 ack0)) := by
  refine ⟨⟨given_legal router_legal, transition_after rfl rfl (by decide +kernel), fun _ => ⟨nofun, fun _ => rfl⟩, ?_⟩,
    ⟨given_legal router_legal, transition_after rfl rfl (by decide +kernel), fun _ => ⟨nofun, fun _ => rfl⟩, rfl, rfl, rfl, 2,
      ack0, [], rfl, by decide +kernel⟩⟩
  rintro ⟨-, -, l, b, p, he, hv⟩
  cases he
  have h : validateFrame (given (.frame 1 data0P1) router).config data0P1 = .valid .data 0#1 p1 := by decide +kernel
  rw [h] at hv
  cases hv

/-- ADesynchronisedRouterStaysSo: a router after RT9, and after RT10's DATA. -/
theorem witness_desynchronised :
    let s := given .diag { router with ackexpected := 1#1 }
    s.Legal ∧ Transition s .diag (after s) ∧ s.role = .router ∧ ¬ spuriousAck s .diag ∧ s.windowsApart ∧
      ({ fullRouter with ackexpected := 1#1 } : State).windowsApart := by
  refine ⟨⟨rfl, ⟨rfl, by decide⟩, by unfold State.tagLegal; decide, (by show _ = _; decide), ⟨.ok, rfl⟩, nofun, fun _ => by unfold State.routerLegal; decide, nofun⟩,
    transition_after rfl rfl (by decide +kernel), rfl, ?_, ⟨nofun, fun _ => by decide⟩, ⟨fun _ => by decide, nofun⟩⟩
  rintro ⟨-, -, l, b, p, he, -⟩
  cases he

/-! ### The chain -/

/-- An Originator in WAIT_ACK with its environment: its timer's expiry is held. -/
def waitingNode : Node where
  deployed  := some bootA
  core      := waiting
  expiries  := [{ gen := 1#32, startNo := 0, cancelled := false }]
  starts    := 1
  intakeOn  := false
  delivered := []
  texts     := []

/-- An Originator in IDLE with its environment. -/
def idleNode : Node := { waitingNode with core := originator, expiries := [], starts := 0, intakeOn := true }

/-- A Receiver with its environment. -/
def receiverNode : Node := { idleNode with deployed := some bootB, core := receiver, intakeOn := false }

theorem receiver_legal : receiver.Legal :=
  ⟨rfl, ⟨rfl, by decide⟩, by unfold State.tagLegal; decide, (by show _ = _; decide), ⟨.ok, rfl⟩,
    fun _ => by unfold State.hostLegal; decide, nofun, nofun⟩

theorem waitingNode_legal : waitingNode.Legal :=
  ⟨waiting_legal, rfl, ⟨rfl, fun _ h => by cases h; exact ⟨rfl, rfl, rfl⟩⟩, rfl, by decide, by decide,
    fun _ => ⟨_, List.mem_singleton_self _, rfl, rfl⟩⟩

theorem idleNode_legal : idleNode.Legal :=
  ⟨originator_legal, rfl, ⟨rfl, fun _ h => by cases h; exact ⟨rfl, rfl, rfl⟩⟩, rfl, by decide, nofun, nofun⟩

theorem receiverNode_legal : receiverNode.Legal :=
  ⟨receiver_legal, rfl, ⟨rfl, fun _ h => by cases h; exact ⟨rfl, rfl, rfl⟩⟩, rfl, by decide, nofun, nofun⟩

/-- A chain whose Originator waits, with an acknowledgement for it on the wire. -/
def waitingPair : Chain := { nodes := [waitingNode, receiverNode], wire := [{ dst := 0, link := 1, bytes := ack0 }] }

/-- A chain whose Originator is idle. -/
def idlePair : Chain := { nodes := [idleNode, receiverNode], wire := [] }

theorem waitingPair_legal : waitingPair.Legal :=
  ⟨by simpa [waitingPair] using ⟨waitingNode_legal, receiverNode_legal⟩, by decide⟩

theorem idlePair_legal : idlePair.Legal :=
  ⟨by simpa [idlePair] using ⟨idleNode_legal, receiverNode_legal⟩, by decide⟩

/-- DutifulEnvironmentsNeverCauseAFault: a frame, and a BOOT. -/
theorem witness_dutiful :
    waitingPair.Legal ∧ (waitingPair.move (.frame 0)).isSome = true ∧ (waitingPair.move (.boot 0 bootA)).isSome = true :=
  ⟨waitingPair_legal, by decide +kernel, by decide +kernel⟩

/-- NoStaleExpiryIsEverAccepted. -/
theorem witness_expiry :
    waitingNode.Legal ∧ { gen := 1#32, startNo := 0, cancelled := false } ∈ waitingNode.expiries ∧
      waitingNode.starts - 0 ≤ 2 ^ waitingNode.core.config.genW ∧ expiryAccepted 1#32 waitingNode.core = true :=
  ⟨waitingNode_legal, by decide⟩

/-- ARunningTimerAlwaysHasAnExpiryDue. -/
theorem witness_due :
    waitingPair.Legal ∧ waitingPair.nodes[0]? = some waitingNode ∧ waitingNode.core.quiescent = false ∧
      waitingPair.ready = true :=
  ⟨waitingPair_legal, rfl, by decide, by decide⟩

/-- The Originator's wait ends with the acknowledgement, and then nothing happens. -/
def endingMoves (n : Nat) : Option Move := if n = 0 then some (.frame 0) else none

/-- The run with these moves. -/
def endingRun (n : Nat) : Chain := if n = 0 then waitingPair else (waitingPair.move (.frame 0)).getD waitingPair

/-- The acknowledgement cancels the expiry that was held. -/
theorem endingRun_cancels :
    ((endingRun 1).nodes.all fun d => d.expiries.all (·.cancelled)) = true := by decide +kernel

/-- ARunWithARunningTimerDoesNotEnd: a run whose timer is cancelled, which ends. -/
theorem witness_ending :
    IsRun endingMoves endingRun ∧ (endingRun 0).Legal ∧ TimersFair endingRun ∧ EndsAt endingMoves 1 := by
  have hnone : ∀ n, 1 ≤ n → endingMoves n = none := fun n h => if_neg (by omega)
  have hrun : ∀ n, 1 ≤ n → endingRun n = endingRun 1 := fun n h => by rw [endingRun, if_neg (by omega)]; rfl
  refine ⟨?_, waitingPair_legal, ?_, fun m h => hnone m h⟩
  · intro n
    cases n with
    | zero =>
      show waitingPair.move (.frame 0) = some (endingRun 1)
      have h : (waitingPair.move (.frame 0)).isSome = true := by decide +kernel
      obtain ⟨c, hc⟩ := Option.isSome_iff_exists.mp h
      rw [hc, endingRun, if_neg (by omega), hc, Option.getD_some]
    | succ n =>
      rw [hnone (n + 1) (by omega)]
      exact (hrun (n + 2) (by omega)).trans (hrun (n + 1) (by omega)).symm
  · intro n i d x hd hx hc
    have hlen : (endingRun 1).nodes.length = (endingRun n).nodes.length := by
      cases n with
      | zero => decide +kernel
      | succ n => rw [hrun (n + 1) (by omega)]
    have hall := endingRun_cancels
    have hnext := hrun (n + 1) (Nat.le_add_left 1 n)
    obtain ⟨hi, -⟩ := List.getElem?_eq_some_iff.mp hd
    generalize endingRun 1 = c at hlen hall hnext
    refine ⟨n + 1, c.nodes[i]'(Nat.lt_of_lt_of_eq hi hlen.symm), Nat.le_succ n, ?_, fun hx' => ?_⟩
    · rw [hnext]
      exact List.getElem?_eq_getElem _
    · have h := List.all_eq_true.mp (List.all_eq_true.mp hall _ (List.getElem_mem _)) x hx'
      rw [hc] at h
      cases h

/-- TheEnvironmentsLibertiesAreAdmitted: a re-BOOT, a frame, a held expiry, and an offer of exactly MAX_MSG bytes. -/
theorem witness_liberties :
    (waitingPair.Legal ∧ waitingPair.nodes[0]? = some waitingNode ∧ waitingPair.ready = true ∧
      deploymentAdmits (waitingPair.deployment.set 0 (some { bootA with orig := false })) = true ∧
      (∃ f, waitingPair.wire[0]? = some f ∧ f.dst = 0) ∧
      waitingNode.expiries[0]? = some { gen := 1#32, startNo := 0, cancelled := false } ∧
      waitingNode.starts - 0 ≤ 2 ^ waitingNode.core.config.genW) ∧
    (idlePair.Legal ∧ idlePair.nodes[0]? = some idleNode ∧ idlePair.ready = true ∧ idleNode.intakeOn = true ∧
      (List.replicate 64 (0x00#8 : Byte)).length ≤ idleNode.core.config.maxMsg) :=
  ⟨⟨waitingPair_legal, rfl, by decide, by decide, ⟨_, rfl, rfl⟩, rfl, by decide⟩,
    ⟨idlePair_legal, rfl, by decide, rfl, by decide⟩⟩

/-- A run with a corrupted copy, a duplicate and an acknowledgement. -/
def lossyMoves : List Move := [.payload 0 p1, .corrupted 0 [], .frame 0, .frame 0, .frame 1]

/-- InOrderLinksDeliverEachPayloadOnceInOrder. -/
theorem witness_in_order :
    (bootA.role = .host ∧ bootA.orig = true ∧ bootB.role = .host ∧ bootB.orig = false) ∧
    neverRebooted lossyMoves ∧ inOrder (pairAfter lossyMoves).wire lossyMoves ∧
    corruptionDetected [Config.reference, Config.reference] lossyMoves ∧
    pair.run (.boot 0 bootA :: .boot 1 bootB :: lossyMoves) = some (pairAfter lossyMoves) := by
  refine ⟨⟨rfl, rfl, rfl, rfl⟩, by simp [neverRebooted, lossyMoves], ?_, ?_, by decide +kernel⟩
  · unfold inOrder lossyMoves
    simp [Move.carries]
    exact ⟨fun k k' f f' h h' _ _ _ _ => by omega, fun k k' f f' h h' _ _ _ _ => by omega⟩
  · intro k b h cf _
    simp only [lossyMoves, List.mem_cons, Move.corrupted.injEq, List.not_mem_nil, reduceCtorEq, false_or, or_false] at h
    exact ⟨.short, by rw [h.2]; rfl⟩

end Sys2Proof.Tests
end

section
/-! SUPPORT. `Effect` lists no way an event cannot end: each is what the dispatcher answers, and so an event has one end. -/
namespace Sys2Proof.Machine

/-! ### The dispatcher at a booted node -/

theorem dispatchEvent_discard {l : Link} {b : Bytes} {c : Discard} {s : State} (hb : s.booted = true)
    (hv : validateFrame s.config b = .discard c) :
    dispatchEvent (.frame l b) s = .next (drop (Status.ofDiscard c) s) := by
  simp [dispatchEvent, dispatchFrame, hb, hv]

theorem dispatchEvent_valid {l : Link} {b : Bytes} {k : Kind} {q : SeqBit} {p : Bytes} {s : State}
    (hb : s.booted = true) (hv : validateFrame s.config b = .valid k q p) :
    dispatchEvent (.frame l b) s = runKey (frameWord s.role k q p) s := by
  simp [dispatchEvent, dispatchFrame, hb, hv]

theorem dispatchEvent_timer {g : Gen} {s : State} (hb : s.booted = true) :
    dispatchEvent (.timer g) s = dispatchTimer g s := by
  simp [dispatchEvent, hb]

theorem dispatchTimer_accepted {g : Gen} {s : State} (ha : expiryAccepted g s = true) :
    dispatchTimer g s = runKey (timerWord s.role) (timerFired s) := if_pos ha

theorem dispatchEvent_payload {p : Bytes} {s : State} (hb : s.booted = true) :
    dispatchEvent (.payload p) s = dispatchPayload p s := by
  simp [dispatchEvent, hb]

/-- Each status of an ignored frame is the one its rule drops with. -/
theorem runKey_ignored {k : Kind} {q : SeqBit} {p : Bytes} {st : Status} {s : State}
    (hwhy : (st = .ignSeq ∧ k = .data ∧ q ≠ s.frameexpected ∧ s.config.reackDuplicates = false ∧
          (s.role = .router → s.bufFull = false)) ∨
      (st = .ignBusy ∧ k = .data ∧ s.role = .router ∧ s.bufFull = true) ∨
      (st = .ignAck ∧ k = .ack ∧ q ≠ s.ackexpected ∧ (s.role = .host → s.sndWait = true)) ∨
      (st = .ignIdleAck ∧ k = .ack ∧ s.role = .host ∧ s.sndWait = false)) :
    runKey (frameWord s.role k q p) s = .next (drop st s) := by
  rcases hwhy with ⟨rfl, rfl, hq, hd, hf⟩ | ⟨rfl, rfl, hr, hf⟩ | ⟨rfl, rfl, hq, hw⟩ | ⟨rfl, rfl, hr, hw⟩
  · cases hr : s.role
    · simp [execHData, hq, hd]
    · simp [execRData, hf hr, hq, hd]
  · simp [hr, execRData, hf]
  · cases hr : s.role
    · simp [execHAck, hw hr, hq]
    · simp [execRAck, hq]
  · simp [hr, execHAck, hw]

/-- A mismatched DATA is acknowledged again on the node's own link. -/
theorem runKey_reack {q : SeqBit} {p : Bytes} {s : State} (hd : s.config.reackDuplicates = true)
    (hq : q ≠ s.frameexpected) (hf : s.role = .router → s.bufFull = false) :
    runKey (frameWord s.role .data q p) s = .next (reackedState (ackLink s) q s) := by
  cases hr : s.role
  · rw [ackLink_host hr, runKey_hostData, execHData, if_neg hq, if_pos hd]; rfl
  · rw [ackLink_router hr, runKey_routerData, execRData, if_neg (by simp [hf hr]), if_pos hq, if_pos hd]; rfl

/-- Every way an event can end is what the dispatcher answers. -/
theorem Effect.dispatchEvent_eq {s t : State} {e : Event} (h : Effect s e t) : dispatchEvent e s = .next t := by
  cases h with
  | boot cfg => exact runKey_bootWord cfg s
  | unbooted he hb => cases e <;> simp_all [dispatchEvent, Event.runTime]
  | discard l b c hb hv => exact dispatchEvent_discard hb hv
  | ignored l b k q p st hb hv hwhy => rw [dispatchEvent_valid hb hv, runKey_ignored hwhy]
  | reack l b q p hb hv hd hq hf => rw [dispatchEvent_valid hb hv, runKey_reack hd hq hf]
  | delivered l b q p hb hr hv hq =>
    rw [dispatchEvent_valid hb hv, hr, runKey_hostData, execHData, if_pos hq]; rfl
  | acked l b q p hb hr hv hw hq =>
    rw [dispatchEvent_valid hb hv, hr, runKey_hostAck, execHAck, if_neg (by simp [hw]), if_neg (by simp [hq])]; rfl
  | forwarded l b q p hb hr hv hf hq =>
    rw [dispatchEvent_valid hb hv, hr, runKey_routerData, execRData, if_neg (by simp [hf]), if_neg (by simp [hq]),
      encodeFrame_data q (validateFrame_payload hv).1]
    rfl
  | released l b q p hb hr hv hq =>
    rw [dispatchEvent_valid hb hv, hr, runKey_routerAck, execRAck, if_neg (by simp [hq])]; rfl
  | stale g hb ha => rw [dispatchEvent_timer hb, dispatchTimer, if_neg (by simp [ha])]
  | hostTimeout g B hb hr ha hw hB =>
    rw [dispatchEvent_timer hb, dispatchTimer_accepted ha, hr, runKey_hostTimer, execHTimeout, if_neg (by simp [hw]),
      hostFrame_timerFired, hB, withUnit_ok, ← retransmittedState_eq]
    rfl
  | routerTimeout g B hb hr ha hf hB =>
    rw [dispatchEvent_timer hb, dispatchTimer_accepted ha, hr, runKey_routerTimer, execRTimeout,
      if_neg (by simp [hf]), routerFrame_timerFired, hB, withUnit_ok, ← retransmittedState_eq]
    rfl
  | payloadFault p f hb ha => rw [dispatchEvent_payload hb, dispatchPayload_eq, ha]
  | sent p hb ha => simp only [dispatchEvent_payload hb, dispatchPayload_eq, ha, execHSend_admitted ha]
  | diag hb => rw [dispatchEvent, if_pos hb, runKey_diagWord]; rfl

/-- An event has one end. -/
theorem Effect.unique {s t u : State} {e : Event} (ht : Effect s e t) (hu : Effect s e u) : t = u := by
  have h := ht.dispatchEvent_eq.symm.trans hu.dispatchEvent_eq
  cases h; rfl

end Sys2Proof.Machine
end

section
/-! SUPPORT. What every event does to each part of the state record: the invariant of 10_state.md R41, the configuration,
the control bits, the sequence bits and the tag. Each fact is a case analysis over `Effect`. -/
namespace Sys2Proof.Machine

/-! ### What the invariant asks, kept by every event -/

theorem Effect.keyPort {s t : State} {e : Event} (h : Effect s e t) : t.keyPort = s.keyPort := by cases h <;> rfl

/-- Only BOOT, an admitted payload and a forward write the buffer, each with a payload of at most MAX_MSG bytes. -/
theorem Effect.bufferLegal {s t : State} {e : Event} (h : Effect s e t) (hs : s.bufferLegal) : t.bufferLegal := by
  cases h with
  | boot cfg => exact ⟨rfl, Nat.zero_le _⟩
  | sent p hb ha => exact writeBuffer_bufferLegal (s := s) (admission_eq_none.mp ha).2.2
  | forwarded l b q p hb hr hv => exact writeBuffer_bufferLegal (s := s) (validateFrame_payload hv).1
  | _ => exact hs

/-- A tag that is written is zero or the next one. -/
theorem Effect.tagLegal {s t : State} {e : Event} (h : Effect s e t) (hs : s.tagLegal) : t.tagLegal := by
  cases h with
  | boot => exact Nat.two_pow_pos _
  | sent | forwarded | hostTimeout | routerTimeout => exact nextGen_lt _ _
  | _ => exact hs

theorem Effect.faultLegal {s t : State} {e : Event} (h : Effect s e t) (hs : s.faultLegal) : t.faultLegal := by
  cases h with
  | unbooted | payloadFault => exact raiseFault_faultLegal hs
  | _ => exact hs

/-- Every event records a code of the table, whatever stood in the status before. -/
theorem Effect.statusLegal {s t : State} {e : Event} (h : Effect s e t) : t.statusLegal := by
  cases h with
  | unbooted => exact ⟨.faultNotBooted, rfl⟩
  | discard l b c => exact ⟨.ofDiscard c, rfl⟩
  | ignored l b k q p st => exact ⟨st, rfl⟩
  | reack => exact ⟨.okReack, rfl⟩
  | stale => exact ⟨.ignStaleTimer, rfl⟩
  | payloadFault p f => exact ⟨f.status, rfl⟩
  | _ => exact ⟨.ok, rfl⟩

/-- The node becomes a host by BOOT, or it was one and its rules keep what a host keeps. -/
theorem Effect.hostLegal {s t : State} {e : Event} (h : Effect s e t) (hs : s.role = .host → s.hostLegal)
    (ht : t.role = .host) : t.hostLegal := by
  cases h with
  | boot cfg => simp [State.hostLegal]
  | acked l b q p hb hr hv hw =>
    obtain ⟨hack, -, -, horig, hfull, hseq⟩ := hs hr
    exact ⟨congrArg flipBit hack, rfl, by simp [horig hw], nofun, hfull, hseq⟩
  | sent p hb ha =>
    obtain ⟨hr, hi, -⟩ := admission_eq_none.mp ha
    obtain ⟨hack, -, hintake, -, hfull, hseq⟩ := hs hr
    have horig : s.orig = true := by simp_all
    exact ⟨hack, rfl, by simp, fun _ => horig, hfull, hseq⟩
  | hostTimeout g B hb hr ha hw =>
    obtain ⟨hack, -, hrest⟩ := hs hr
    exact ⟨hack, hw.symm, hrest⟩
  | forwarded l b q p hb hr | released l b q p hb hr | routerTimeout g B hb hr =>
    exact absurd (hr.symm.trans ht) nofun
  | _ => exact hs ht

/-- The node becomes a router by BOOT, or it was one and its rules keep what a router keeps. -/
theorem Effect.routerLegal {s t : State} {e : Event} (h : Effect s e t) (hs : s.role = .router → s.routerLegal)
    (ht : t.role = .router) : t.routerLegal := by
  cases h with
  | boot cfg =>
    have hr : cfg.role = .router := ht
    simp [State.routerLegal, originator, hr]
  | forwarded l b q p hb hr => exact ⟨rfl, (hs hr).2⟩
  | released l b q p hb hr => exact ⟨rfl, (hs hr).2⟩
  | routerTimeout g B hb hr ha hf => exact ⟨hf, (hs hr).2⟩
  | delivered l b q p hb hr | acked l b q p hb hr | hostTimeout g B hb hr => exact absurd (hr.symm.trans ht) nofun
  | sent p hb ha => exact absurd ((admission_eq_none.mp ha).1.symm.trans ht) nofun
  | _ => exact hs ht

/-- A node that is unbooted after an event was so before it, and the event only raised the fault. -/
theorem Effect.powerOnLegal {s t : State} {e : Event} (h : Effect s e t) (hs : s.booted = false → s.powerOnLegal)
    (ht : t.booted = false) : t.powerOnLegal := by
  have hb : s.booted = false := by
    cases hb : s.booted with
    | false => rfl
    | true => exact absurd ((h.booted hb).symm.trans ht) nofun
  cases h with
  | boot => cases ht
  | unbooted => exact hs hb
  | _ => simp_all

theorem State.Legal.takeEvent {s : State} (h : s.Legal) (rest : List Event) : (s.takeEvent rest).Legal := by
  obtain ⟨hk, hbuf, htag, hfault, hstatus, hhost, hrouter, hun⟩ := h
  exact ⟨hk, hbuf, htag, hfault, hstatus, hhost, hrouter, hun⟩

/-- Every event keeps the invariant (10_state.md R41). -/
theorem Effect.legal {s t : State} {e : Event} (h : Effect s e t) (hs : s.Legal) : t.Legal where
  noKey := h.keyPort.trans hs.noKey
  buffer := h.bufferLegal hs.buffer
  tag := h.tagLegal hs.tag
  fault := h.faultLegal hs.fault
  status := h.statusLegal
  host := h.hostLegal hs.host
  router := h.routerLegal hs.router
  unbooted := h.powerOnLegal hs.unbooted

/-- Settles O37: with no operation handed by its key, a step is idle or takes an event, and every end of an event keeps
each part of the invariant. -/
theorem everyStepKeepsTheInvariant : Obligations.EveryStepKeepsTheInvariant := by
  intro s t hs h
  cases hi : s.inbox with
  | nil =>
    rw [step_idle hs.noKey hi] at h
    cases h; exact hs
  | cons e rest =>
    rw [step_event hs.noKey hi] at h
    exact (dispatchEvent_effect h).legal (hs.takeEvent rest)

/-- Settles O2: at power-on every field has the value `State.powerOnLegal` asks for, which is also an idle host's. -/
theorem powerOnMeetsTheInvariant : Obligations.PowerOnMeetsTheInvariant where
  noKey := rfl
  buffer := ⟨rfl, Nat.zero_le _⟩
  tag := Nat.two_pow_pos _
  fault := BitVec.zero_and
  status := ⟨.ok, rfl⟩
  host := fun _ => ⟨rfl, rfl, rfl, nofun, rfl, rfl⟩
  router := nofun
  unbooted := fun _ => ⟨rfl, rfl, rfl, rfl, rfl, rfl, rfl, rfl, rfl, rfl, rfl, rfl, rfl, rfl⟩

/-! ### The node's identity -/

/-- The state with another identity (10_state.md R22). -/
def State.withNodeId (n : BitVec 16) (s : State) : State := { s with nodeId := n }

/-- A run-time event ends the same way whatever the node's identity is. -/
theorem Effect.withNodeId {s t : State} {e : Event} (h : Effect s e t) (he : e.runTime = true) (n : BitVec 16) :
    Effect (s.withNodeId n) e (t.withNodeId n) := by
  cases h with
  | boot => cases he
  | unbooted _ _ hb => exact .unbooted _ he hb
  | discard l b c hb hv => exact .discard l b c hb hv
  | ignored l b k q p st hb hv hwhy => exact .ignored l b k q p st hb hv hwhy
  | reack l b q p hb hv hd hq hf => exact .reack l b q p hb hv hd hq hf
  | delivered l b q p hb hr hv hq => exact .delivered l b q p hb hr hv hq
  | acked l b q p hb hr hv hw hq => exact .acked l b q p hb hr hv hw hq
  | forwarded l b q p hb hr hv hf hq => exact .forwarded l b q p hb hr hv hf hq
  | released l b q p hb hr hv hq => exact .released l b q p hb hr hv hq
  | stale g hb ha => exact .stale g hb ha
  | hostTimeout g B hb hr ha hw hB => exact .hostTimeout g B hb hr ha hw hB
  | routerTimeout g B hb hr ha hf hB => exact .routerTimeout g B hb hr ha hf hB
  | payloadFault p f hb ha => exact .payloadFault p f hb ha
  | sent p hb ha => exact .sent p hb ha
  | diag hb => exact .diag hb

/-- Settles O43: the end of a run-time event is its end under any other identity too. -/
theorem noRunTimeEventReadsTheNodeId : Obligations.NoRunTimeEventReadsTheNodeId := by
  intro s t e n ht he
  obtain ⟨rest, hi, h⟩ := ht.effect
  calc step (s.withNodeId n) = dispatchEvent e ((s.takeEvent rest).withNodeId n) := step_event ht.1 hi
    _ = .next (t.withNodeId n) := (h.withNodeId he n).dispatchEvent_eq

end Sys2Proof.Machine
end

section
/-! SUPPORT. Which run-time event writes which of the protocol's bits (10_state.md R23 to R32), and the router's two
windows (R42). -/
namespace Sys2Proof.Machine

/-! ### The events that the rules of the bits name -/

/-- A valid ACK that carries `S.ackexpected` (10_state.md R23). -/
def acceptsAck (s : State) (e : Event) : Prop :=
  ∃ l b p, e = .frame l b ∧ validateFrame s.config b = .valid .ack s.ackexpected p

/-- A valid DATA frame that carries `S.frameexpected` (10_state.md R25). -/
def acceptsData (s : State) (e : Event) : Prop :=
  ∃ l b p, e = .frame l b ∧ validateFrame s.config b = .valid .data s.frameexpected p

/-- A payload that passes the checks of 44_dispatcher.md R183. -/
def admits (s : State) (e : Event) : Prop :=
  s.role = .host ∧ s.intakeEn = true ∧ ∃ p, e = .payload p ∧ p.length ≤ s.config.maxMsg

/-- An accepted DATA frame at a router with an empty buffer (43_router.md R160). -/
def forwards (s : State) (e : Event) : Prop := s.role = .router ∧ s.bufFull = false ∧ acceptsData s e

theorem acceptsAck_of_valid {l : Link} {b : Bytes} {q : SeqBit} {p : Bytes} {s : State}
    (hv : validateFrame s.config b = .valid .ack q p) (hq : q = s.ackexpected) : acceptsAck s (.frame l b) :=
  ⟨l, b, p, rfl, hq ▸ hv⟩

theorem acceptsData_of_valid {l : Link} {b : Bytes} {q : SeqBit} {p : Bytes} {s : State}
    (hv : validateFrame s.config b = .valid .data q p) (hq : q = s.frameexpected) : acceptsData s (.frame l b) :=
  ⟨l, b, p, rfl, hq ▸ hv⟩

theorem admits_of_admission {p : Bytes} {s : State} (ha : admission p s = none) : admits s (.payload p) := by
  obtain ⟨hr, hi, hp⟩ := admission_eq_none.mp ha
  exact ⟨hr, hi, p, rfl, hp⟩

/-! ### Sequence bits -/

theorem Effect.ackexpected_flips {s t : State} {e : Event} (h : Effect s e t) (he : e.runTime = true)
    (hne : t.ackexpected ≠ s.ackexpected) : t.ackexpected = flipBit s.ackexpected ∧ acceptsAck s e := by
  cases h with
  | boot => cases he
  | acked l b q p hb hr hv hw hq => exact ⟨rfl, acceptsAck_of_valid hv hq⟩
  | released l b q p hb hr hv hq => exact ⟨rfl, acceptsAck_of_valid hv hq⟩
  | _ => exact absurd rfl hne

theorem Effect.nextframetosend_flips {s t : State} {e : Event} (h : Effect s e t) (he : e.runTime = true)
    (hne : t.nextframetosend ≠ s.nextframetosend) :
    s.role = .host ∧ t.nextframetosend = flipBit s.nextframetosend ∧ t.ackexpected = flipBit s.ackexpected := by
  cases h with
  | boot => cases he
  | acked l b q p hb hr => exact ⟨hr, rfl, rfl⟩
  | _ => exact absurd rfl hne

theorem Effect.frameexpected_flips {s t : State} {e : Event} (h : Effect s e t) (he : e.runTime = true)
    (hne : t.frameexpected ≠ s.frameexpected) : t.frameexpected = flipBit s.frameexpected ∧ acceptsData s e := by
  cases h with
  | boot => cases he
  | delivered l b q p hb hr hv hq => exact ⟨rfl, acceptsData_of_valid hv hq⟩
  | forwarded l b q p hb hr hv hf hq => exact ⟨rfl, acceptsData_of_valid hv hq⟩
  | _ => exact absurd rfl hne

/-- Settles O44: one lemma for each bit. -/
theorem sequenceBitsFlipOnlyOnAcceptedFrames : Obligations.SequenceBitsFlipOnlyOnAcceptedFrames := by
  intro s t e ht he
  obtain ⟨rest, -, h⟩ := ht.effect
  exact ⟨h.ackexpected_flips he, h.nextframetosend_flips he, h.frameexpected_flips he⟩

/-! ### Intake -/

theorem Effect.intake_announced {s t : State} {e : Event} (h : Effect s e t) (he : e.runTime = true)
    (hne : t.intakeEn ≠ s.intakeEn) : .intake t.intakeEn ∈ t.actions := by
  cases h with
  | boot => cases he
  | acked => simp
  | sent => simp
  | _ => exact absurd rfl hne

/-- Settles O45: intake changes only by H_SEND and by an accepted ACK, and both end with INTAKE. -/
theorem everyIntakeChangeIsAnnounced : Obligations.EveryIntakeChangeIsAnnounced := by
  intro s t e ht he
  obtain ⟨rest, -, h⟩ := ht.effect
  exact h.intake_announced he

/-! ### Control bits -/

/-- The values of `snd_wait`, `intake_en`, `buf_full` and `tmr_active` (10_state.md R36) after a run-time event: those
before it, or what one of the four events that their rules name writes. -/
inductive ControlStep (s : State) (e : Event) : Bool → Bool → Bool → Bool → Prop where
  | kept : ControlStep s e s.sndWait s.intakeEn s.bufFull s.tmrActive
  | sent (h : admits s e) : ControlStep s e true false s.bufFull true
  | acked (hr : s.role = .host) (hw : s.sndWait = true) (h : acceptsAck s e) : ControlStep s e false true s.bufFull false
  | forwarded (h : forwards s e) : ControlStep s e s.sndWait s.intakeEn true true
  | released (hr : s.role = .router) (h : acceptsAck s e) : ControlStep s e s.sndWait s.intakeEn false false

/-- An accepted expiry finds the timer running, so the restart after it changes no control bit. -/
theorem ControlStep.of_expiry {g : Gen} {e : Event} {s : State} (ha : expiryAccepted g s = true) :
    ControlStep s e s.sndWait s.intakeEn s.bufFull true := by
  rw [← (expiryAccepted_eq_true.mp ha).1]
  exact .kept

theorem Effect.controlStep {s t : State} {e : Event} (h : Effect s e t) (he : e.runTime = true) :
    ControlStep s e t.sndWait t.intakeEn t.bufFull t.tmrActive := by
  cases h with
  | boot => cases he
  | acked l b q p hb hr hv hw hq => exact .acked hr hw (acceptsAck_of_valid hv hq)
  | forwarded l b q p hb hr hv hf hq => exact .forwarded ⟨hr, hf, acceptsData_of_valid hv hq⟩
  | released l b q p hb hr hv hq => exact .released hr (acceptsAck_of_valid hv hq)
  | sent p hb ha => exact .sent (admits_of_admission ha)
  | hostTimeout g B hb hr ha => exact .of_expiry ha
  | routerTimeout g B hb hr ha => exact .of_expiry ha
  | _ => exact .kept

/-- The rule of each control bit, setting and clearing (10_state.md R26, R27, R28, R31). -/
theorem ControlStep.rules {s : State} {e : Event} {w i f a : Bool} (h : ControlStep s e w i f a) :
    (s.sndWait = false → w = true → admits s e) ∧
    (s.sndWait = true → w = false → s.role = .host ∧ acceptsAck s e) ∧
    (s.intakeEn = true → i = false → admits s e) ∧
    (s.intakeEn = false → i = true → s.role = .host ∧ s.sndWait = true ∧ acceptsAck s e) ∧
    (s.bufFull = false → f = true → forwards s e) ∧
    (s.bufFull = true → f = false → s.role = .router ∧ acceptsAck s e) ∧
    (s.tmrActive = false → a = true → admits s e ∨ forwards s e) ∧
    (s.tmrActive = true → a = false → acceptsAck s e) := by
  cases h with
  | kept => simp +contextual
  | sent h => simp +contextual [h]
  | acked hr hw h => simp +contextual [hr, hw, h]
  | forwarded h => simp +contextual [h]
  | released hr h => simp +contextual [hr, h]

/-- Settles O47: the five ways to leave the control bits, by what an event does to them. -/
theorem controlBitsChangeOnlyAsTheirRulesSay : Obligations.ControlBitsChangeOnlyAsTheirRulesSay := by
  intro s t e ht he
  obtain ⟨rest, -, h⟩ := ht.effect
  exact (h.controlStep he).rules

/-! ### The tag -/

/-- The actions start no timer. -/
def startsNone (as : List Action) : Prop := ∀ g d, .tstart g d ∉ as

theorem startsNone_cancelActions (s : State) : startsNone (cancelActions s) := by
  intro g d
  unfold cancelActions
  split <;> simp

/-- A run-time event leaves the tag and starts no timer, or takes the next tag and starts a timer with it. -/
theorem Effect.tag {s t : State} {e : Event} (h : Effect s e t) (he : e.runTime = true) (hs : s.actions = []) :
    (t.tmrGen = s.tmrGen ∧ startsNone t.actions) ∨
    (t.tmrGen = nextGen s.config s.tmrGen ∧ ∃ d, .tstart t.tmrGen d ∈ t.actions) := by
  cases h with
  | boot => cases he
  | sent => exact .inr ⟨rfl, _, List.mem_append_left _ List.mem_concat_self⟩
  | forwarded | hostTimeout | routerTimeout => exact .inr ⟨rfl, _, List.mem_concat_self⟩
  | acked | released => exact .inl ⟨rfl, by simpa [startsNone, hs] using startsNone_cancelActions s⟩
  | _ => exact .inl ⟨rfl, by simp [startsNone, hs]⟩

/-- Settles O48: `Effect.tag`, with the action list empty when the transition begins. -/
theorem tagsCountTheTimersStarted : Obligations.TagsCountTheTimersStarted := by
  intro s t e ht he
  obtain ⟨rest, -, h⟩ := ht.effect
  exact h.tag he rfl

/-! ### The router's windows -/

/-- What a run-time event can do to the windows of a router: nothing, forward a frame, or take the ACK it awaits. -/
inductive WindowStep (s : State) (e : Event) (t : State) : Prop where
  | kept (hfull : t.bufFull = s.bufFull) (hframe : t.frameexpected = s.frameexpected)
      (hack : t.ackexpected = s.ackexpected) (hseq : t.bufSeq = s.bufSeq)
  | forwarded (hempty : s.bufFull = false) (hfull : t.bufFull = true)
      (hframe : t.frameexpected = flipBit s.frameexpected) (hack : t.ackexpected = s.ackexpected)
      (hseq : t.bufSeq = s.frameexpected)
  | released (hb : s.booted = true) (h : acceptsAck s e) (hfull : t.bufFull = false)
      (hframe : t.frameexpected = s.frameexpected) (hack : t.ackexpected = flipBit s.ackexpected)

theorem Effect.windowStep {s t : State} {e : Event} (h : Effect s e t) (he : e.runTime = true)
    (hr : s.role = .router) : WindowStep s e t := by
  cases h with
  | boot => cases he
  | delivered l b q p hb hh | acked l b q p hb hh => exact absurd (hh.symm.trans hr) nofun
  | forwarded l b q p hb _ hv hf hq => exact .forwarded hf rfl rfl rfl hq
  | released l b q p hb _ hv hq => exact .released hb (acceptsAck_of_valid hv hq) rfl rfl rfl
  | _ => exact .kept rfl rfl rfl rfl

/-- Only BOOT writes the role. -/
theorem Effect.role {s t : State} {e : Event} (h : Effect s e t) (he : e.runTime = true) : t.role = s.role := by
  cases h with
  | boot => cases he
  | _ => rfl

theorem bootState_windowsInStep (cfg : BootCfg) (s : State) : (bootState cfg s).windowsInStep :=
  fun _ => ⟨nofun, fun _ => rfl⟩

/-- The ACK a router awaits finds its buffer full, unless it is spurious. -/
theorem bufFull_of_acceptsAck {s : State} {e : Event} (hr : s.role = .router) (h : acceptsAck s e)
    (hn : ¬ spuriousAck s e) : s.bufFull = true := by
  by_contra hfull
  exact hn ⟨hr, by simpa using hfull, h⟩

/-- A forward flips one of two equal bits, and an ACK for the buffered frame the other. -/
theorem WindowStep.inStep {s t : State} {e : Event} (h : WindowStep s e t) (hr : s.role = .router)
    (ht : t.role = s.role) (hs : s.windowsInStep) (hn : ¬ (s.booted = true ∧ spuriousAck s e)) : t.windowsInStep := by
  obtain ⟨hsFull, hsEmpty⟩ := hs hr
  cases h with
  | kept hfull hframe hack hseq => exact (windowsInStep_congr ht hfull hframe hack hseq).mpr hs
  | forwarded hempty hfull hframe hack hseq =>
    have heq : s.frameexpected = s.ackexpected := hsEmpty hempty
    intro _
    rw [hfull, hframe, hack, hseq, heq]
    exact ⟨fun _ => ⟨flipBit_ne _, rfl⟩, nofun⟩
  | released hb hacc hfull hframe hack =>
    have hbuf : s.bufFull = true := bufFull_of_acceptsAck hr hacc fun hsp => hn ⟨hb, hsp⟩
    intro _
    rw [hfull, hframe, hack]
    exact ⟨nofun, fun _ => eq_flipBit_of_ne (hsFull hbuf).1⟩

/-- Windows that are apart stay so: each of the two flips exchanges the one relation for the other. -/
theorem WindowStep.apart {s t : State} {e : Event} (h : WindowStep s e t) (hr : s.role = .router)
    (hs : s.windowsApart) (hn : ¬ spuriousAck s e) : t.windowsApart := by
  obtain ⟨hsFull, hsEmpty⟩ := hs
  unfold State.windowsApart
  cases h with
  | kept hfull hframe hack hseq =>
    rw [hfull, hframe, hack, hseq]
    exact ⟨hsFull, hsEmpty⟩
  | forwarded hempty hfull hframe hack hseq =>
    have hne : s.frameexpected ≠ s.ackexpected := hsEmpty hempty
    rw [hfull, hframe, hack, hseq]
    exact ⟨fun _ => ⟨hne, (eq_flipBit_of_ne hne.symm).symm⟩, nofun⟩
  | released hb hacc hfull hframe hack =>
    have heq : s.frameexpected = s.ackexpected := (hsFull (bufFull_of_acceptsAck hr hacc hn)).2
    rw [hfull, hframe, hack, heq]
    exact ⟨nofun, fun _ => (flipBit_ne _).symm⟩

theorem Effect.windowsInStep {s t : State} {e : Event} (h : Effect s e t) (hs : s.windowsInStep)
    (hn : ¬ (s.booted = true ∧ spuriousAck s e)) : t.windowsInStep := by
  have run : e.runTime = true → t.windowsInStep := fun he ht =>
    have hr : s.role = .router := (h.role he).symm.trans ht
    (h.windowStep he hr).inStep hr (h.role he) hs hn ht
  cases h with
  | boot cfg => exact bootState_windowsInStep cfg s
  | unbooted e he => exact run he
  | _ => exact run rfl

/-- A spurious ACK at a booted router has the one end R_ACK gives it (43_router.md R161). -/
theorem Effect.of_spuriousAck {s t : State} {e : Event} (h : Effect s e t) (hb : s.booted = true)
    (hsp : spuriousAck s e) : t = releasedState s := by
  obtain ⟨hr, -, l, b, p, rfl, hv⟩ := hsp
  exact h.unique (.released l b _ p hb hr hv rfl)

/-- Settles O52: `Effect.windowsInStep`, and a spurious ACK flips one of two equal bits. -/
theorem routerWindowsStayInStepUnlessASpuriousAckArrives :
    Obligations.RouterWindowsStayInStepUnlessASpuriousAckArrives := by
  intro s t e _ ht hs
  obtain ⟨rest, -, h⟩ := ht.effect
  refine ⟨h.windowsInStep hs, fun hb hsp hin => ?_⟩
  rw [h.of_spuriousAck hb hsp] at hin
  obtain ⟨hr, hempty, -⟩ := hsp
  have before : s.frameexpected = s.ackexpected := (hs hr).2 hempty
  have after : s.frameexpected = flipBit s.ackexpected := (hin hr).2 rfl
  exact flipBit_ne s.ackexpected (after.symm.trans before)

/-- Settles O53: `WindowStep.apart`. -/
theorem aDesynchronisedRouterStaysSo : Obligations.ADesynchronisedRouterStaysSo := by
  intro s t e _ ht he hr hn hs
  obtain ⟨rest, -, h⟩ := ht.effect
  exact (h.windowStep he hr).apart hr hs hn

end Sys2Proof.Machine
end

section
/-! SUPPORT. The observation port (10_state.md R38): what a range of bits of a word shows, field by field. -/
namespace Sys2Proof.Machine

theorem portField_getElem {n : Nat} (a : Nat) (v : BitVec n) (i : Nat) (h : i < 32) :
    (portField a v)[i] = (decide (a ≤ i) && v.getLsbD (i - a)) := by
  rw [← BitVec.getLsbD_eq_getElem h, portField_getLsbD]
  simp [h]

/-- A range that is the field's own shows the field. -/
theorem portField_extract_same {n a : Nat} (v : BitVec n) (h : a + n ≤ 32) : (portField a v).extractLsb' a n = v := by
  ext i hi
  have inWord : a + i < 32 := by omega
  rw [BitVec.getElem_extractLsb', portField_getLsbD, Nat.add_sub_cancel_left, BitVec.getLsbD_eq_getElem hi]
  simp [inWord]

/-- A range that does not meet the field shows nothing of it. -/
theorem portField_extract_disjoint {n a b m : Nat} (v : BitVec n) (h : b + m ≤ a ∨ a + n ≤ b) :
    (portField a v).extractLsb' b m = 0#m := by
  ext i hi
  rw [BitVec.getElem_extractLsb', BitVec.getElem_zero]
  rcases h with h | h
  · exact portField_getLsbD_of_lt (by omega)
  · exact portField_getLsbD_of_ge (by omega)

theorem roleBit_getElem (r : Role) : (roleBit r)[0] = decide (r = .router) := by cases r <;> rfl

theorem portCfg_fields (s : State) :
    (portCfg s).getLsbD 0 = s.booted ∧ (portCfg s).getLsbD 1 = decide (s.role = .router) ∧
      (portCfg s).getLsbD 2 = s.orig ∧ (portCfg s).extractLsb' 3 13 = 0#13 ∧
      (portCfg s).extractLsb' 16 16 = s.nodeId := by
  unfold portCfg
  refine ⟨?_, ?_, ?_, ?_, ?_⟩
  · simp [portField_getElem]
  · simp [portField_getElem, roleBit_getElem]
  · simp [portField_getElem]
  · simp [BitVec.extractLsb'_or, portField_extract_disjoint]
  · simp [BitVec.extractLsb'_or, portField_extract_disjoint, portField_extract_same]

theorem portSeq_fields (s : State) :
    (portSeq s).extractLsb' 0 1 = s.ackexpected ∧ (portSeq s).extractLsb' 1 1 = s.nextframetosend ∧
      (portSeq s).extractLsb' 2 1 = s.frameexpected ∧ (portSeq s).extractLsb' 3 29 = 0#29 := by
  simp [portSeq, BitVec.extractLsb'_or, portField_extract_disjoint, portField_extract_same]

theorem portCtl_fields (s : State) :
    (portCtl s).getLsbD 0 = s.sndWait ∧ (portCtl s).getLsbD 1 = s.intakeEn ∧
      (portCtl s).getLsbD 2 = s.bufFull ∧ (portCtl s).extractLsb' 3 1 = s.bufSeq ∧
      (portCtl s).getLsbD 4 = s.tmrActive ∧ (portCtl s).extractLsb' 5 11 = 0#11 ∧
      (portCtl s).extractLsb' 16 16 = s.bufLen := by
  unfold portCtl
  refine ⟨?_, ?_, ?_, ?_, ?_, ?_, ?_⟩
  · simp [portField_getElem]
  · simp [portField_getElem]
  · simp [portField_getElem]
  · simp [BitVec.extractLsb'_or, portField_extract_disjoint, portField_extract_same]
  · simp [portField_getElem]
  · simp [BitVec.extractLsb'_or, portField_extract_disjoint]
  · simp [BitVec.extractLsb'_or, portField_extract_disjoint, portField_extract_same]

theorem portByte_fields (v : BitVec 8) :
    (portField 0 v).extractLsb' 0 8 = v ∧ (portField 0 v).extractLsb' 8 24 = 0#24 :=
  ⟨portField_extract_same v (by decide), portField_extract_disjoint v (.inr (by decide))⟩

/-- An address above the last word of the port reads zero. -/
theorem portRead_of_gt {addr : Nat} (h : 5 < addr) (s : State) : portRead addr s = 0#32 := by
  match addr, h with
  | _ + 6, _ => rfl

/-- Settles O20: word by word. -/
theorem observationPortShowsEveryField : Obligations.ObservationPortShowsEveryField := fun s =>
  ⟨portCfg_fields s, portSeq_fields s, portCtl_fields s, rfl, portByte_fields s.fault, portByte_fields s.status,
    fun _ h => portRead_of_gt h s, fun _ _ => rfl⟩

end Sys2Proof.Machine
end

section
/-! FAMILY 20_memory.md. The bytes of a frame (R51, R101). -/
namespace Sys2Proof.Machine

/-- R101: past the six bytes of the header stands the payload. -/
theorem frameBytes_getElem?_payload (cf : Config) (k : Kind) (q : SeqBit) (p : Bytes) (i : Nat) :
    (frameBytes cf k q p)[6 + i]? = p[i]? := by
  rw [← List.getElem?_drop, frameBytes_payload]

/-- Settles O23: `frameBytes_length` and `frameBytes_getElem?_payload`. -/
theorem payloadIsCarriedUnchanged : Obligations.PayloadIsCarriedUnchanged := fun cf k q p =>
  ⟨frameBytes_length cf k q p, frameBytes_getElem?_payload cf k q p⟩

end Sys2Proof.Machine
end

section
/-! FAMILY 30_encoding.md. The legal frames (R78), and the keys with and without a row (R79 to R83). -/
namespace Sys2Proof

/-! ### Legal frames -/

/-- R78's conditions on a string whose header is written out. -/
theorem legalFrame_header (cf : Config) (k q l1 l0 c1 c0 : Byte) (p : Bytes) :
    legalFrame cf (k :: q :: l1 :: l0 :: c1 :: c0 :: p) ↔
      be16 c1 c0 = integrity cf.integrity (k :: q :: l1 :: l0 :: 0x00#8 :: 0x00#8 :: p) ∧
      p.length = (be16 l1 l0).toNat ∧
      (k = 0x00#8 ∨ k = 0x01#8) ∧ (q = 0x00#8 ∨ q = 0x01#8) ∧
      (k = 0x01#8 → be16 l1 l0 = 0#16) ∧ (k = 0x00#8 → (be16 l1 l0).toNat ≤ cf.maxMsg) := by
  have h : (k :: q :: l1 :: l0 :: c1 :: c0 :: p).length = 6 + p.length := by simp; omega
  simp [legalFrame, byteAt, zeroChecksum, h]

/-- A byte below 2 is the SEQ encoding of a bit (30_encoding.md R72). -/
theorem eq_seqCode_iff (b : Byte) : (∃ q, b = seqCode q) ↔ b = 0x00#8 ∨ b = 0x01#8 := by
  constructor
  · rintro ⟨q, rfl⟩
    rcases seqBit_cases q with rfl | rfl
    · exact .inl rfl
    · exact .inr rfl
  · rintro (rfl | rfl)
    · exact ⟨0#1, rfl⟩
    · exact ⟨1#1, rfl⟩

/-- The last checks of VALIDATE on the codes of a kind and a bit. -/
theorem validateFields_codes (m : Nat) (k : Kind) (q : SeqBit) (len : BitVec 16) (p : Bytes)
    (hack : k = .ack → len = 0#16) (hdata : k = .data → len.toNat ≤ m) :
    validateFields m (kindCode k) (seqCode q) len p = .valid k q p := by
  unfold validateFields
  rw [kindOfCode_kindCode, seqOfCode_seqCode]
  cases k with
  | data => exact if_pos (hdata rfl)
  | ack => exact if_pos (hack rfl)

/-- The last checks of VALIDATE accept what the last four conditions of R78 allow. -/
theorem validateFields_accepts_iff (m : Nat) (k q : Byte) (len : BitVec 16) (p : Bytes) :
    (∃ k' q' p', validateFields m k q len p = .valid k' q' p') ↔
      (k = 0x00#8 ∨ k = 0x01#8) ∧ (q = 0x00#8 ∨ q = 0x01#8) ∧
      (k = 0x01#8 → len = 0#16) ∧ (k = 0x00#8 → len.toNat ≤ m) := by
  constructor
  · rintro ⟨k', q', p', h⟩
    obtain ⟨rfl, hq, -, hack, hdata⟩ := validateFields_valid h
    refine ⟨?_, (eq_seqCode_iff q).mp ⟨q', hq⟩, ?_⟩
    · cases k' <;> simp [kindCode]
    · cases k' with
      | data => exact ⟨nofun, fun _ => hdata rfl⟩
      | ack => exact ⟨fun _ => hack rfl, nofun⟩
  · rintro ⟨hk, hq, hack, hdata⟩
    obtain ⟨q', rfl⟩ := (eq_seqCode_iff q).mpr hq
    rcases hk with rfl | rfl
    · exact ⟨.data, q', p, validateFields_codes m .data q' len p nofun fun _ => hdata rfl⟩
    · exact ⟨.ack, q', p, validateFields_codes m .ack q' len p (fun _ => hack rfl) nofun⟩

/-- A string with a header is legal iff VALIDATE accepts it: its checks are R78's conditions, one by one. -/
theorem legalFrame_header_iff_valid (cf : Config) (k q l1 l0 c1 c0 : Byte) (p : Bytes) :
    legalFrame cf (k :: q :: l1 :: l0 :: c1 :: c0 :: p) ↔
      ∃ k' q' p', validateFrame cf (k :: q :: l1 :: l0 :: c1 :: c0 :: p) = .valid k' q' p' := by
  rw [legalFrame_header, validateFrame_header]
  by_cases hck : be16 c1 c0 = integrity cf.integrity (k :: q :: l1 :: l0 :: 0x00#8 :: 0x00#8 :: p)
  case neg => simp [hck]
  by_cases hlen : p.length = (be16 l1 l0).toNat
  case neg =>
    rw [if_neg (not_not_intro hck), if_pos (by omega)]
    simp [hlen]
  rw [if_neg (not_not_intro hck), if_neg (by omega), validateFields_accepts_iff]
  exact ⟨fun h => h.2.2, fun h => ⟨hck, hlen, h⟩⟩

/-- R78: the legal frames are the strings VALIDATE accepts. -/
theorem legalFrame_iff_valid (cf : Config) (b : Bytes) :
    legalFrame cf b ↔ ∃ k q p, validateFrame cf b = .valid k q p := by
  by_cases hb : 6 ≤ b.length
  · obtain ⟨k, q, l1, l0, c1, c0, p, rfl⟩ := header_of_length hb
    exact legalFrame_header_iff_valid cf k q l1 l0 c1 c0 p
  · exact ⟨fun h => absurd h.1 hb, fun ⟨_, _, _, h⟩ => absurd (header_of_valid h) hb⟩

/-- VALIDATE has two answers: it accepts what it does not discard. -/
theorem not_valid_iff_discard (cf : Config) (b : Bytes) :
    (¬ ∃ k q p, validateFrame cf b = .valid k q p) ↔ ∃ c, validateFrame cf b = .discard c := by
  cases validateFrame cf b with
  | discard c => simp
  | valid k q p => simp

/-- R78: every other string is discarded. -/
theorem not_legalFrame_iff_discard (cf : Config) (b : Bytes) :
    ¬ legalFrame cf b ↔ ∃ c, validateFrame cf b = .discard c :=
  (not_congr (legalFrame_iff_valid cf b)).trans (not_valid_iff_discard cf b)

/-! ### Keys with a row -/

/-- Every operation's key has its own row (30_encoding.md R82), constructor by constructor. -/
theorem keyRow_encode : ∀ i : Instr, Laws.KeyRow.Statement i
  | .boot cfg => Laws.KeyRow.boot cfg
  | .hData q p => Laws.KeyRow.hData q p
  | .hTimeout => Laws.KeyRow.hTimeout
  | .hSend p => Laws.KeyRow.hSend p
  | .diag => Laws.KeyRow.diag
  | .hAck q => Laws.KeyRow.hAck q
  | .rData q p => Laws.KeyRow.rData q p
  | .rTimeout => Laws.KeyRow.rTimeout
  | .rPayload p => Laws.KeyRow.rPayload p
  | .rAck q => Laws.KeyRow.rAck q
  | .encode k q p => Laws.KeyRow.encode k q p
  | .validate b => Laws.KeyRow.validate b
  | .timerStart l n => Laws.KeyRow.timerStart l n
  | .timerCancel => Laws.KeyRow.timerCancel
  | .timerExpire g => Laws.KeyRow.timerExpire g

/-- The only row that matches a key gives its operation. -/
theorem opOfKey_of_filter {k : Key} {r : KeyRow} (h : keyRows.filter (·.covers k) = [r]) : opOfKey k = some r.op := by
  rw [opOfKey, ← List.head?_filter, h]
  rfl

/-- Settles O28: the row of the operation's key gives the operation back. -/
theorem decodingAnEncodedOperationGivesItBack : Obligations.DecodingAnEncodedOperationGivesItBack := by
  intro i
  obtain ⟨r, hrow, hinstr⟩ := keyRow_encode i
  calc decode (encode i) = .ok (instrOf r.op (encode i).operands) := decode_of_op (opOfKey_of_filter hrow) _
    _ = .ok i := by rw [hinstr]

/-! ### Reserved keys -/

/-- The decoder rejects a key exactly when no row matches it, whatever its operands. -/
theorem decode_error_iff (k : Key) (o : Operands) :
    (∃ why, decode { key := k, operands := o } = .error why) ↔ opOfKey k = none := by
  cases h : opOfKey k with
  | none => simp [decode_of_none h]
  | some op => simp [decode_of_op h]

/-- Every row fixes all three bits of CLASS, to 000 or 111 (30_encoding.md R82). -/
theorem keyRows_class : ∀ r ∈ keyRows, r.mask.extractLsb' 5 3 = 0b111#3 ∧
    (r.value.extractLsb' 5 3 = 0b000#3 ∨ r.value.extractLsb' 5 3 = 0b111#3) := by decide

/-- A key that a row matches has the CLASS of the row. -/
theorem class_of_covers {k : Key} {r : KeyRow} (hr : r ∈ keyRows) (h : r.covers k = true) :
    k.extractLsb' 5 3 = 0b000#3 ∨ k.extractLsb' 5 3 = 0b111#3 := by
  obtain ⟨hmask, hvalue⟩ := keyRows_class r hr
  have hk : k &&& r.mask = r.value := by simpa [KeyRow.covers] using h
  have hclass : k.extractLsb' 5 3 = r.value.extractLsb' 5 3 := by
    rw [← hk, BitVec.extractLsb'_and, hmask]
    exact BitVec.and_allOnes.symm
  rwa [hclass]

/-- A key of no class has no row. -/
theorem opOfKey_of_badClass {k : Key} (h0 : k.extractLsb' 5 3 ≠ 0b000#3) (h7 : k.extractLsb' 5 3 ≠ 0b111#3) :
    opOfKey k = none := by
  have hnone : keyRows.find? (·.covers k) = none :=
    List.find?_eq_none.mpr fun _ hr hc => (class_of_covers hr hc).elim h0 h7
  rw [opOfKey, hnone]
  rfl

/-- A key is its CLASS and five bits below it. -/
theorem key_of_class {k : Key} {c : BitVec 3} (h : k.extractLsb' 5 3 = c) : ∃ low : BitVec 5, k = c ++ low :=
  ⟨k.extractLsb' 0 5, by
    rw [← h, BitVec.extractLsb'_append_extractLsb'_eq_extractLsb' (start₂ := 5) (start₁ := 0) rfl]
    exact BitVec.extractLsb'_eq_self.symm⟩

/-- An event key without a row has a reserved EVT, or a KIND that its EVT does not take (30_encoding.md R79). -/
theorem opOfKey_eventClass {k : Key} (h : k.extractLsb' 5 3 = 0b000#3) :
    opOfKey k = none ↔ 0b101#3 ≤ k.extractLsb' 0 3 ∨ (k.getLsbD 3 = true ∧ k.extractLsb' 0 3 ≠ 0b001#3) := by
  obtain ⟨low, rfl⟩ := key_of_class h
  clear h
  revert low
  decide

/-- A unit key without a row has a bit 4 or 3 set, or an operation code without a row (30_encoding.md R81). -/
theorem opOfKey_unitClass {k : Key} (h : k.extractLsb' 5 3 = 0b111#3) :
    opOfKey k = none ↔ k.extractLsb' 3 2 ≠ 0b00#2 ∨ 0b101#3 ≤ k.extractLsb' 0 3 := by
  obtain ⟨low, rfl⟩ := key_of_class h
  clear h
  revert low
  decide

/-- Settles O29: by the CLASS of the key. -/
theorem reservedKeysAreExactlyTheListedOnes : Obligations.ReservedKeysAreExactlyTheListedOnes := by
  intro k o
  rw [decode_error_iff]
  by_cases h0 : k.extractLsb' 5 3 = 0b000#3
  · rw [opOfKey_eventClass h0]
    simp [h0]
  by_cases h7 : k.extractLsb' 5 3 = 0b111#3
  · rw [opOfKey_unitClass h7]
    simp [h7]
  · exact ⟨fun _ => opOfKey_of_badClass h0 h7, fun _ => .inl ⟨h0, h7⟩⟩

/-! ### Keys written out -/

/-- An eight-bit word of the table is a key with every operand zero. -/
theorem decodeTableWord_key (k : Key) : decodeTableWord 8 k.toNat = (decode { key := k }).toOption := by
  have hword : tableWord 8 k.toNat = { key := k } := by
    rw [tableWord, Nat.mod_eq_of_lt k.isLt, BitVec.ofNat_toNat, BitVec.setWidth_eq]
  rw [decodeTableWord, if_pos (Nat.mod_lt _ (by decide)), hword]

/-- A written key with a row is the row's operation with every operand zero. -/
theorem decodeTableWord_of_op {k : Key} {op : Op} (h : opOfKey k = some op) :
    decodeTableWord 8 k.toNat = some (instrOf op {}) := by
  rw [decodeTableWord_key, decode_of_op h]
  rfl

/-- A written key without a row is no operation. -/
theorem decodeTableWord_of_none {k : Key} (h : opOfKey k = none) : decodeTableWord 8 k.toNat = none := by
  rw [decodeTableWord_key, decode_of_none h]
  rfl

/-- Settles O30: the row of each key, found by evaluation. -/
theorem writtenKeysSelectTheirOperation : Obligations.WrittenKeysSelectTheirOperation :=
  ⟨decodeTableWord_of_op (k := 0b00000000#8) (op := .boot) (by decide),
    decodeTableWord_of_op (k := 0b00010000#8) (op := .boot) (by decide),
    decodeTableWord_of_op (k := 0b00001001#8) (op := .hAck) (by decide),
    decodeTableWord_of_op (k := 0b00010010#8) (op := .rTimeout) (by decide),
    decodeTableWord_of_op (k := 0b11100011#8) (op := .timerCancel) (by decide),
    decodeTableWord_of_none (k := 0b00000101#8) (by decide),
    decodeTableWord_of_none (k := 0b11100101#8) (by decide)⟩

end Sys2Proof

namespace Sys2Proof.Machine

/-! ### Illegal frames and handed keys at a step -/

/-- A discarded string changes only the status of a booted node. -/
theorem step_discard {s : State} {l : Link} {b : Bytes} {c : Discard} {rest : List Event} (hk : s.keyPort = none)
    (hi : s.inbox = .frame l b :: rest) (hb : s.booted = true) (hv : validateFrame s.config b = .discard c) :
    step s = .next (drop (Status.ofDiscard c) (s.takeEvent rest)) := by
  rw [step_event hk hi]
  exact dispatchEvent_discard hb hv

/-- Settles O26: VALIDATE's checks are R78's conditions, and what it discards ends in `drop`. -/
theorem legalFramesAreTheAcceptedStrings : Obligations.LegalFramesAreTheAcceptedStrings := by
  refine fun cf b => ⟨legalFrame_iff_valid cf b, not_legalFrame_iff_discard cf b, ?_⟩
  rintro s l rest rfl hillegal hb hk hi
  obtain ⟨c, hv⟩ := (not_legalFrame_iff_discard s.config b).mp hillegal
  exact ⟨(Status.ofDiscard c).code, step_discard hk hi hb hv⟩

theorem runKey_of_decode_ok {w : KeyWord} {i : Instr} (h : decode w = .ok i) (s : State) : runKey w s = exec i s := by
  simp only [runKey, h]

theorem runKey_of_decode_error {w : KeyWord} {why : ReservedKey} (h : decode w = .error why) (s : State) :
    runKey w s = .refused (.reservedKey w.key why) := by
  simp only [runKey, h]

/-- Settles O8: the step at the key port runs the key, and the key its decoded operation. -/
theorem stepRunsTheDecodedOperation : Obligations.StepRunsTheDecodedOperation := by
  intro s w hw
  rw [step_key hw]
  exact ⟨fun _ h => runKey_of_decode_ok h _, fun _ h => runKey_of_decode_error h _⟩

end Sys2Proof.Machine
end

section
/-! FAMILY 40_codec.md. ENCODE's frame (R100), VALIDATE's checks (R102), the round trip (R107), and the detection of every
single-bit error (R106). -/
namespace Sys2Proof

/-! ### VALIDATE by byte numbers -/

/-- VALIDATE reads its string by byte numbers, as R102 writes it, whether or not the string has a header. -/
theorem validateFrame_bytes (cf : Config) (b : Bytes) :
    validateFrame cf b =
      if b.length < 6 then .discard .short
      else if be16 (byteAt b 4) (byteAt b 5) ≠ integrity cf.integrity (zeroChecksum b) then .discard .checksum
      else if b.length ≠ 6 + (be16 (byteAt b 2) (byteAt b 3)).toNat then .discard .length
      else validateFields cf.maxMsg (byteAt b 0) (byteAt b 1) (be16 (byteAt b 2) (byteAt b 3)) (b.drop 6) := by
  by_cases hb : b.length < 6
  · rw [if_pos hb]
    unfold validateFrame
    split
    · simp only [List.length_cons] at hb
      omega
    · rfl
  · rw [if_neg hb]
    obtain ⟨k, q, l1, l0, c1, c0, p, rfl⟩ := header_of_length (not_lt.mp hb)
    have hlen : (k :: q :: l1 :: l0 :: c1 :: c0 :: p).length = 6 + p.length := by simp; omega
    rw [validateFrame_header, hlen]
    rfl

/-- The last checks of VALIDATE in R102's order: the domains of KIND and SEQ, then the bound on LEN for the kind. -/
theorem validateFields_bytes (m : Nat) (k q : Byte) (len : BitVec 16) (p : Bytes) :
    validateFields m k q len p =
      if k ≠ 0x00#8 ∧ k ≠ 0x01#8 then .discard .format
      else if q ≠ 0x00#8 ∧ q ≠ 0x01#8 then .discard .format
      else if k = 0x01#8 ∧ len ≠ 0#16 then .discard .format
      else if k = 0x00#8 ∧ m < len.toNat then .discard .format
      else .valid (if k = 0x00#8 then .data else .ack) (q.extractLsb' 0 1) p := by
  by_cases hk : k = 0x00#8 ∨ k = 0x01#8
  case neg =>
    obtain ⟨hk0, hk1⟩ := not_or.mp hk
    simp [validateFields, kindOfCode, hk0, hk1]
  by_cases hq : q = 0x00#8 ∨ q = 0x01#8
  case neg =>
    obtain ⟨hq0, hq1⟩ := not_or.mp hq
    simp [validateFields, seqOfCode, hq0, hq1]
  rw [if_neg (by tauto), if_neg (by tauto)]
  obtain ⟨s, rfl⟩ := (eq_seqCode_iff q).mpr hq
  have hs : (seqCode s).extractLsb' 0 1 = s := by rcases seqBit_cases s with rfl | rfl <;> rfl
  rw [hs]
  rcases hk with rfl | rfl
  · rcases lt_or_ge m len.toNat with hm | hm
    · simp [validateFields, kindOfCode, hm]
    · simp [validateFields, kindOfCode, hm, hm.not_gt]
  · simp [validateFields, kindOfCode]

/-! ### The round trip -/

/-- Settles O24: ENCODE stores the length and the checksum that VALIDATE computes. -/
theorem decodingAnEncodedFrameGivesItBack : Obligations.DecodingAnEncodedFrameGivesItBack := by
  intro cf k q p hp hack
  have hlen : (BitVec.ofNat 16 p.length).toNat = p.length :=
    Nat.mod_eq_of_lt (by have := cf.maxMsg_le; omega)
  unfold frameBytes frameWith
  rw [validateFrame_header, be16_hiByte_loByte, be16_hiByte_loByte, hiByte_zero, loByte_zero,
    if_neg (not_not_intro rfl), if_neg (by omega)]
  apply validateFields_codes
  · intro hk
    rw [hack hk]
    rfl
  · intro
    omega

/-- A string that VALIDATE accepts is the frame of what it was decoded to: each of the six header bytes was checked. -/
theorem frameBytes_of_valid {cf : Config} {b : Bytes} {k : Kind} {q : SeqBit} {p : Bytes}
    (h : validateFrame cf b = .valid k q p) : frameBytes cf k q p = b := by
  obtain ⟨kb, qb, l1, l0, c1, c0, p0, rfl⟩ := header_of_length (header_of_valid h)
  obtain ⟨hck, hlen, -⟩ := (legalFrame_header ..).mp ((legalFrame_iff_valid cf _).mpr ⟨k, q, p, h⟩)
  rw [validateFrame_header, if_neg (not_not_intro hck), if_neg (by omega)] at h
  obtain ⟨rfl, rfl, rfl, -⟩ := validateFields_valid h
  have hl : BitVec.ofNat 16 p.length = be16 l1 l0 := by rw [hlen, BitVec.ofNat_toNat, BitVec.setWidth_eq]
  simp [frameBytes, frameWith, hl, ← hck]

/-- Settles O25: `frameBytes_of_valid` and `validateFrame_payload`. -/
theorem anAcceptedStringIsTheFrameOfItsFields : Obligations.AnAcceptedStringIsTheFrameOfItsFields :=
  fun _ _ _ _ _ h => ⟨frameBytes_of_valid h, validateFrame_payload h⟩

/-! ### One inverted bit -/

/-- A 16-bit field has one more significant and one less significant byte (20_memory.md R50). -/
theorem be16_inj {a b c d : Byte} : be16 a b = be16 c d ↔ a = c ∧ b = d := by
  constructor
  · intro h
    exact ⟨by simpa using congrArg hiByte h, by simpa using congrArg loByte h⟩
  · rintro ⟨rfl, rfl⟩
    rfl

/-- Inverting bit `k` changes the byte. -/
theorem xor_bit_ne {k : Nat} (hk : k < 8) (v : Byte) : v ^^^ (1#8 <<< k) ≠ v := by
  have hbit : 1#8 <<< k ≠ 0x00#8 := by
    revert k
    decide
  simpa using hbit

theorem byteAt_invertBit_same {b : Bytes} {i : Nat} (hi : i < b.length) (k : Nat) :
    byteAt (invertBit b i k) i = byteAt b i ^^^ (1#8 <<< k) := by
  simp [byteAt, invertBit, hi]

theorem byteAt_invertBit_ne {i j : Nat} (h : i ≠ j) (b : Bytes) (k : Nat) :
    byteAt (invertBit b i k) j = byteAt b j := by
  simp [byteAt, invertBit, h]

@[simp] theorem invertBit_length (b : Bytes) (i k : Nat) : (invertBit b i k).length = b.length :=
  List.length_modify ..

@[simp] theorem zeroChecksum_length (b : Bytes) : (zeroChecksum b).length = b.length := by simp [zeroChecksum]

/-- A bit inverted in the checksum field is gone once the field is zeroed. -/
theorem zeroChecksum_invertBit_checksum {i : Nat} (h : i = 4 ∨ i = 5) (b : Bytes) (k : Nat) :
    zeroChecksum (invertBit b i k) = zeroChecksum b := by
  simp only [zeroChecksum, invertBit, List.set_eq_modify]
  rcases h with rfl | rfl
  · rw [List.modify_modify_eq]
    rfl
  · rw [List.modify_modify_ne _ _ _ (by decide : 5 ≠ 4), List.modify_modify_eq]
    rfl

/-- A bit inverted elsewhere is inverted with the checksum field zeroed, too. -/
theorem zeroChecksum_invertBit_other {i : Nat} (h4 : i ≠ 4) (h5 : i ≠ 5) (b : Bytes) (k : Nat) :
    zeroChecksum (invertBit b i k) = invertBit (zeroChecksum b) i k := by
  simp only [zeroChecksum, invertBit, List.set_eq_modify]
  rw [List.modify_modify_ne _ _ _ h4, List.modify_modify_ne _ _ _ h5]

/-- One inverted bit changes the integrity of a string: by `integrity_append_ne`, at the byte that holds it. -/
theorem integrity_invertBit_ne (f : IntegrityParams) {b : Bytes} {i k : Nat} (hi : i < b.length) (hk : k < 8) :
    integrity f (invertBit b i k) ≠ integrity f b := by
  have h := integrity_append_ne f (b.take i) (b.drop (i + 1)) (xor_bit_ne hk b[i])
  rw [List.getElem_cons_drop, List.take_append_drop] at h
  rw [invertBit, List.modify_eq_take_cons_drop hi]
  exact h

/-- Stored and computed checksum of a string, equal before one bit is inverted, differ after: the bit is in the checksum
field and changes the stored one only, or elsewhere and changes the computed one only. -/
theorem checksum_invertBit_ne (f : IntegrityParams) {b : Bytes} {i k : Nat} (hi : i < b.length) (hk : k < 8)
    (h : be16 (byteAt b 4) (byteAt b 5) = integrity f (zeroChecksum b)) :
    be16 (byteAt (invertBit b i k) 4) (byteAt (invertBit b i k) 5) ≠ integrity f (zeroChecksum (invertBit b i k)) := by
  by_cases hc : i = 4 ∨ i = 5
  · rw [zeroChecksum_invertBit_checksum hc, ← h, Ne, be16_inj]
    rintro ⟨h4, h5⟩
    rcases hc with rfl | rfl
    · exact xor_bit_ne hk _ ((byteAt_invertBit_same hi k).symm.trans h4)
    · exact xor_bit_ne hk _ ((byteAt_invertBit_same hi k).symm.trans h5)
  · obtain ⟨hi4, hi5⟩ := not_or.mp hc
    rw [zeroChecksum_invertBit_other hi4 hi5, byteAt_invertBit_ne hi4, byteAt_invertBit_ne hi5, h]
    exact (integrity_invertBit_ne f (by simpa using hi) hk).symm

/-- Settles O27: the checksum check is the first that a string of the frame's length can fail, and it fails. -/
theorem everySingleBitErrorIsDetected : Obligations.EverySingleBitErrorIsDetected := by
  rintro cf b i k ⟨hlen, hck, -⟩ hi hk
  rw [validateFrame_bytes, invertBit_length, if_neg (by omega), if_pos (checksum_invertBit_ne _ hi hk hck)]

end Sys2Proof

namespace Sys2Proof.Machine

/-! ### The codec's operations -/

/-- ENCODE goes on where its operands are legal (R100). -/
theorem encodeFrame_legal {cf : Config} {k : Kind} {p : Bytes} (q : SeqBit) (hp : p.length ≤ cf.maxMsg)
    (hack : k = .ack → p = []) : encodeFrame cf k q p = .ok (frameBytes cf k q p) := by
  cases k with
  | data => exact encodeFrame_data q hp
  | ack => rw [hack rfl]; rfl

/-- ENCODE of DATA over MAX_MSG is refused (R100). -/
theorem encodeFrame_oversize {cf : Config} {p : Bytes} (q : SeqBit) (h : cf.maxMsg < p.length) :
    encodeFrame cf .data q p = .error .encodeOversize := by
  simp [encodeFrame, encodeOperandsLegal, payloadFits, h]

/-- ENCODE of an ACK with a payload is refused (R100). -/
theorem encodeFrame_ackPayload {p : Bytes} (cf : Config) (q : SeqBit) (h : p ≠ []) :
    encodeFrame cf .ack q p = .error .encodeAckPayload := by
  simp [encodeFrame, encodeOperandsLegal, h]

/-- Settles O21: the frame is `frameBytes`, byte by byte, and the refusals are those of `encodeFrame`. -/
theorem encodeBuildsTheFrameOrRefuses : Obligations.EncodeBuildsTheFrameOrRefuses := by
  refine ⟨decode_of_op (op := .encode) (by decide), fun s k q p => ⟨fun hp hack => ?_, ?_, ?_⟩⟩
  · have hk : (if k = .data then 0x00#8 else 0x01#8) = kindCode k := by cases k <;> rfl
    refine ⟨_, _, rfl, rfl, ?_⟩
    change execEncode k q p s = _
    rw [execEncode, encodeFrame_legal q hp hack, withUnit_ok, hk]
    rfl
  · rintro rfl hne
    change execEncode .ack q p s = _
    rw [execEncode, encodeFrame_ackPayload _ q hne, withUnit_error]
  · rintro rfl hover
    change execEncode .data q p s = _
    rw [execEncode, encodeFrame_oversize q hover, withUnit_error]

/-- Settles O22: `validateFrame_bytes` and `validateFields_bytes`. -/
theorem validateChecksInOrder : Obligations.ValidateChecksInOrder := by
  refine ⟨decode_of_op (op := .validate) (by decide), fun s b => ?_⟩
  change execValidate b s = _
  rw [execValidate, validateFrame_bytes, validateFields_bytes]

/-- Settles O15: at its forwarding point R_DATA ends as ENCODE does. -/
theorem keyedRouterDataOverMaxMsgIsRefused : Obligations.KeyedRouterDataOverMaxMsgIsRefused := by
  intro s q p hempty hq hover
  refine ⟨decode_of_op (op := .rData) (by decide) _, ?_⟩
  change execRData q p s = _
  rw [execRData, if_neg (by simp [hempty]), if_neg (not_not_intro hq), encodeFrame_oversize q hover, withUnit_error]

end Sys2Proof.Machine
end

section
/-! FAMILY 41_timer.md. The arbiter's three operations (R121 to R123), the filter on expiries (R123, R124), what is
timed (R126), and retransmission at every accepted expiry (R125). -/
namespace Sys2Proof.Machine

/-! ### Retransmission at every accepted expiry -/

/-- The node waits for the acknowledgement of the DATA frame with bit `q` that it sent on link `l`: a host in WAIT_ACK,
or a router with its buffer full. -/
inductive Outstanding (s : State) : Link → SeqBit → Prop where
  | host (hr : s.role = .host) (hw : s.sndWait = true) : Outstanding s s.config.hostLink s.nextframetosend
  | router (hr : s.role = .router) (hf : s.bufFull = true) : Outstanding s s.config.routerDownLink s.bufSeq

theorem Outstanding.takeEvent {s : State} {l : Link} {q : SeqBit} (h : Outstanding s l q) (rest : List Event) :
    Outstanding (s.takeEvent rest) l q := by
  cases h with
  | host hr hw => exact .host (s := s.takeEvent rest) hr hw
  | router hr hf => exact .router (s := s.takeEvent rest) hr hf

/-- A retransmission leaves the frame outstanding. -/
theorem Outstanding.retransmitted {s : State} {l : Link} {q : SeqBit} (h : Outstanding s l q) (m : Link) (B : Bytes) :
    Outstanding (retransmittedState m B s) l q := by
  cases h with
  | host hr hw => exact .host (s := retransmittedState m B s) hr hw
  | router hr hf => exact .router (s := retransmittedState m B s) hr hf

/-- The timer of a legal node runs while a frame is outstanding (10_state.md R41). -/
theorem Outstanding.tmrActive {s : State} {l : Link} {q : SeqBit} (h : Outstanding s l q) (hs : s.Legal) :
    s.tmrActive = true := by
  cases h with
  | host hr hw =>
    obtain ⟨-, hact, -⟩ := hs.host hr
    exact hact.trans hw
  | router hr hf =>
    obtain ⟨hfull, -⟩ := hs.router hr
    exact hfull.symm.trans hf

/-- Before the first BOOT no timer runs (70_reset_and_hazards.md R230). -/
theorem State.Legal.booted_of_tmrActive {s : State} (hs : s.Legal) (ha : s.tmrActive = true) : s.booted = true := by
  cases hb : s.booted with
  | true => rfl
  | false =>
    obtain ⟨-, -, -, -, -, -, -, -, -, -, -, -, hidle, -⟩ := hs.unbooted hb
    exact absurd (hidle.symm.trans ha) nofun

/-- An accepted expiry sends the outstanding frame again. -/
theorem Outstanding.effect {s : State} {l : Link} {q : SeqBit} (h : Outstanding s l q) (hs : s.Legal) :
    Effect s (.timer s.tmrGen) (retransmittedState l (frameBytes s.config .data q s.bufData) s) := by
  have hact := h.tmrActive hs
  have hb := hs.booted_of_tmrActive hact
  have hacc : expiryAccepted s.tmrGen s = true := expiryAccepted_eq_true.mpr ⟨hact, rfl⟩
  cases h with
  | host hr hw => exact .hostTimeout _ _ hb hr hacc hw (hostFrame_legal hs.buffer)
  | router hr hf => exact .routerTimeout _ _ hb hr hacc hf (routerFrame_legal hs.buffer)

/-- The step that takes the expiry of the running timer is the retransmission. -/
theorem Outstanding.step {s : State} {l : Link} {q : SeqBit} {rest : List Event} (h : Outstanding s l q) (hs : s.Legal)
    (hi : s.inbox = .timer s.tmrGen :: rest) :
    step s = .next (retransmittedState l (frameBytes s.config .data q s.bufData) (s.takeEvent rest)) := by
  rw [step_event hs.noKey hi]
  exact ((h.takeEvent rest).effect (hs.takeEvent rest)).dispatchEvent_eq

/-- The expiries of `n` consecutive tags, the first that of the `m`-th timer. -/
def expiriesFrom (c : Config) (m n : Nat) : List Event := (List.range n).map fun i => .timer (tagOf c (m + i))

theorem expiriesFrom_succ (c : Config) (m n : Nat) :
    expiriesFrom c m (n + 1) = .timer (tagOf c m) :: expiriesFrom c (m + 1) n := by
  simp [expiriesFrom, List.range_succ_eq_map, Function.comp_def, Nat.add_assoc, Nat.add_comm 1]

/-- Counting from a tag gives the same expiries as counting from the number it is the tag of. -/
theorem expiriesFrom_tagOf (c : Config) (m n : Nat) : expiriesFrom c (tagOf c m).toNat n = expiriesFrom c m n := by
  simp [expiriesFrom, tagOf_tagOf_add]

/-- A run goes on from the state its first step answers. -/
theorem core_run_succ_eq_next {M : Host.Core} {n : Nat} {s t : M.State} :
    M.run (n + 1) s = .next t ↔ ∃ u, M.step s = .next u ∧ M.run n u = .next t := by
  cases hstep : M.step s <;> simp [Host.Core.run, hstep]

/-- Every run keeps the invariant. -/
theorem core_run_legal (n : Nat) {s t : State} (hs : s.Legal) (h : Sys2Proof.core.run n s = .next t) : t.Legal := by
  induction n generalizing s with
  | zero => cases h; exact hs
  | succ n ih =>
    obtain ⟨u, hstep, hrun⟩ := core_run_succ_eq_next.mp h
    exact ih (everyStepKeepsTheInvariant s u hs hstep) hrun

/-- The state after `n + 1` accepted expiries, each retransmitting `B` on link `l`: that after one, from a tag `n`
further on. -/
def resentState (l : Link) (B : Bytes) (rest : List Event) (n : Nat) (s : State) : State :=
  retransmittedState l B { s.takeEvent rest with tmrGen := tagOf s.config (s.tmrGen.toNat + n) }

theorem resentState_zero {s : State} (h : s.tagLegal) (l : Link) (B : Bytes) (rest : List Event) :
    resentState l B rest 0 s = retransmittedState l B (s.takeEvent rest) := by
  simp only [resentState, Nat.add_zero, tagOf_of_tagLegal h]
  rfl

/-- The tag counts the expiries. -/
theorem resentState_tmrGen (l : Link) (B : Bytes) (rest : List Event) (n : Nat) (s : State) :
    (resentState l B rest n s).tmrGen = tagOf s.config (s.tmrGen.toNat + (n + 1)) := nextGen_tagOf _ _

/-- The last expiry sent the frame and restarted the timer, for R120's duration of that frame. -/
theorem resentState_actions (l : Link) (cf : Config) (k : Kind) (q : SeqBit) (p : Bytes) (rest : List Event) (n : Nat)
    (s : State) :
    (resentState l (frameBytes cf k q p) rest n s).actions = [.send l (frameBytes cf k q p),
      .tstart (resentState l (frameBytes cf k q p) rest n s).tmrGen (timeoutUs s.config l (6 + p.length))] := by
  rw [← frameBytes_length cf k q p]
  rfl

/-- An expiry before `n + 1` others is one more of them. -/
theorem resentState_retransmitted (l : Link) (B : Bytes) (rest rest' : List Event) (n : Nat) (s : State) :
    resentState l B rest n (retransmittedState l B (s.takeEvent rest')) = resentState l B rest (n + 1) s := by
  have htag : tagOf s.config ((nextGen s.config s.tmrGen).toNat + n) = tagOf s.config (s.tmrGen.toNat + (n + 1)) := by
    rw [nextGen, tagOf_tagOf_add, Nat.add_assoc, Nat.add_comm 1]
  simp only [resentState, retransmittedState_config, retransmittedState_tmrGen, takeEvent_config, takeEvent_tmrGen,
    htag]
  rfl

/-- However many expiries are accepted, the last one retransmits the frame that was outstanding at the first. -/
theorem Outstanding.run {l : Link} {q : SeqBit} {rest : List Event} (n : Nat) {s : State} (h : Outstanding s l q)
    (hs : s.Legal) (hi : s.inbox = expiriesFrom s.config s.tmrGen.toNat (n + 1) ++ rest) :
    Sys2Proof.core.run (n + 1) s = .next (resentState l (frameBytes s.config .data q s.bufData) rest n s) := by
  induction n generalizing s with
  | zero =>
    rw [expiriesFrom_succ, tagOf_of_tagLegal hs.tag] at hi
    exact core_run_succ_eq_next.mpr ⟨_, h.step hs hi, congrArg Host.Outcome.next (resentState_zero hs.tag _ _ _).symm⟩
  | succ n ih =>
    rw [expiriesFrom_succ, tagOf_of_tagLegal hs.tag, List.cons_append] at hi
    have hstep := h.step hs hi
    have hinbox : expiriesFrom s.config (s.tmrGen.toNat + 1) (n + 1) ++ rest =
        expiriesFrom s.config (nextGen s.config s.tmrGen).toNat (n + 1) ++ rest := by
      rw [nextGen, expiriesFrom_tagOf]
    have hrun := ih ((h.takeEvent _).retransmitted _ _) (everyStepKeepsTheInvariant _ _ hs hstep) hinbox
    exact core_run_succ_eq_next.mpr ⟨_, hstep, hrun.trans (congrArg _ (resentState_retransmitted _ _ _ _ _ _))⟩

/-- Settles O36: without an expiry nothing happens, and after `n + 1` of them the state is that of `Outstanding.run`. -/
theorem retransmissionHasNoCeiling : Obligations.RetransmissionHasNoCeiling := by
  intro n s rest hs hi
  cases n with
  | zero =>
    have htag := (tagOf_of_tagLegal hs.tag).symm
    exact ⟨fun _ hw => ⟨s, rfl, hs, hw, hi, htag, rfl, rfl, nofun⟩,
      fun _ hf => ⟨s, rfl, hs, hf, hi, htag, rfl, rfl, nofun⟩⟩
  | succ n =>
    constructor
    · intro hr hw
      have hrun := (Outstanding.host hr hw).run n hs hi
      exact ⟨_, hrun, core_run_legal _ hs hrun, hw, rfl, resentState_tmrGen _ _ _ _ _, rfl, rfl,
        fun _ => resentState_actions _ _ _ _ _ _ _ _⟩
    · intro hr hf
      have hrun := (Outstanding.router hr hf).run n hs hi
      exact ⟨_, hrun, core_run_legal _ hs hrun, hf, rfl, resentState_tmrGen _ _ _ _ _, rfl, rfl,
        fun _ => resentState_actions _ _ _ _ _ _ _ _⟩

/-! ### Which expiries are accepted, and what is timed -/

/-- Once an expiry was handled, accepted or not, its tag is stale: an accepted one restarts the timer with another
tag. -/
theorem Effect.timer_stale {s t : State} {g : Gen} (h : Effect s (.timer g) t) (hb : s.booted = true) :
    expiryAccepted g t = false := by
  cases h with
  | unbooted _ _ hun => exact absurd (hb.symm.trans hun) nofun
  | stale _ _ ha => exact ha
  | hostTimeout B _ _ _ ha | routerTimeout B _ _ _ ha =>
    obtain ⟨-, rfl⟩ := expiryAccepted_eq_true.mp ha
    simpa [expiryAccepted] using (nextGen_ne s.config s.tmrGen).symm

theorem Effect.inbox {s t : State} {e : Event} (h : Effect s e t) : t.inbox = s.inbox := by cases h <;> rfl

/-- Settles O34: after the first delivery the tag is stale, so the second is dropped. -/
theorem anExpiryIsAcceptedAtMostOnce : Obligations.AnExpiryIsAcceptedAtMostOnce := by
  intro s t g rest hb hk hi hstep
  rw [step_event hk hi] at hstep
  have h := dispatchEvent_effect hstep
  rw [step_event (h.keyPort.trans hk) h.inbox]
  exact (Effect.stale (s := t.takeEvent rest) g (h.booted hb) (h.timer_stale hb)).dispatchEvent_eq

/-- In `t` the timer runs with tag `g`, and `d` is R120's duration of a DATA frame among the actions. -/
def timesSentData (cf : Config) (t : State) (g : Gen) (d : Nat) : Prop :=
  t.tmrActive = true ∧ g = t.tmrGen ∧
    ∃ l q p, .send l (frameBytes cf .data q p) ∈ t.actions ∧ d = timeoutUs t.config l (6 + p.length)

/-- Where the one timer started is that of a DATA frame that was sent, R126 holds. -/
theorem timesSentData_of_send {cf : Config} {t : State} {g : Gen} {d : Nat} (l : Link) (q : SeqBit) (p : Bytes)
    (hact : t.tmrActive = true) (hsend : .send l (frameBytes cf .data q p) ∈ t.actions)
    (hstart : g = t.tmrGen ∧ d = timeoutUs t.config l (frameBytes cf .data q p).length) : timesSentData cf t g d :=
  ⟨hact, hstart.1, l, q, p, hsend, by rw [hstart.2, frameBytes_length]⟩

/-- Only the rules that send a DATA frame start a timer, and they start it for that frame (R126). -/
theorem Effect.timesSentData {s t : State} {e : Event} {g : Gen} {d : Nat} (h : Effect s e t) (hs : s.actions = [])
    (hg : .tstart g d ∈ t.actions) : timesSentData s.config t g d := by
  have hcancel : .tstart g d ∉ cancelActions s := startsNone_cancelActions s g d
  cases h with
  | sent p =>
    refine timesSentData_of_send s.config.hostLink s.nextframetosend p rfl ?_ ?_
    · simp
    · simpa [hs, hcancel] using hg
  | forwarded l b q p =>
    refine timesSentData_of_send s.config.routerDownLink q p rfl ?_ ?_
    · simp
    · simpa [hs, hcancel] using hg
  | hostTimeout g' B hb hr ha hw hB =>
    rw [hostFrame_ok hB] at hg ⊢
    refine timesSentData_of_send s.config.hostLink _ _ rfl (List.mem_append_left _ List.mem_concat_self) ?_
    simpa [hs] using hg
  | routerTimeout g' B hb hr ha hf hB =>
    rw [routerFrame_ok hB] at hg ⊢
    refine timesSentData_of_send s.config.routerDownLink _ _ rfl (List.mem_append_left _ List.mem_concat_self) ?_
    simpa [hs] using hg
  | boot cfg =>
    have : .tstart g d ∉ bootAnnouncement cfg := by unfold bootAnnouncement; split <;> simp
    simp [hs, hcancel, this] at hg
  | _ => simp [hs, hcancel] at hg

/-- Settles O35: `Effect.timesSentData`, with the action list empty when the transition begins. -/
theorem onlySentDataIsTimed : Obligations.OnlySentDataIsTimed := by
  intro s t e g d ht hg
  obtain ⟨rest, -, h⟩ := ht.effect
  exact h.timesSentData rfl hg

/-- Of the tags of fewer than 2^GEN_W consecutive starts, no two are equal (R124). -/
theorem tagOf_inj_of_lt {c : Config} {m n : Nat} (h : tagOf c m = tagOf c n) (hle : m ≤ n)
    (hlt : n - m < 2 ^ c.genW) : m = n := by
  have hdvd : 2 ^ c.genW ∣ n - m := (Nat.modEq_iff_dvd' hle).mp (tagOf_inj.mp h)
  have := Nat.eq_zero_of_dvd_of_lt hdvd hlt
  omega

/-- Settles O57: the accepted tag is that of the last start, and the held one is too near to share it otherwise. -/
theorem noStaleExpiryIsEverAccepted : Obligations.NoStaleExpiryIsEverAccepted := by
  intro d x hd hx hheld hacc
  obtain ⟨-, hgen⟩ := expiryAccepted_eq_true.mp hacc
  obtain ⟨hcore, hexp, -⟩ := hd.tags
  obtain ⟨hxgen, hlt⟩ := hexp x hx
  exact tagOf_inj_of_lt (hxgen.symm.trans (hgen.trans hcore)) hlt (by omega)

/-! ### The arbiter's operations, handed by their key -/

/-- Settles O31: `timerStart` with `nextGen`, `cancelActions` and `timeoutUs` written out. -/
theorem timerStartTagsAndTimes : Obligations.TimerStartTagsAndTimes :=
  ⟨decode_of_op (op := .timerStart) (by decide), fun _ _ _ => rfl, fun _ hc => ⟨hc.timeoutFactor, hc.genW⟩⟩

/-- Settles O32: `timerCancel` on a running and on a stopped timer. -/
theorem timerCancelStopsOnlyARunningTimer : Obligations.TimerCancelStopsOnlyARunningTimer := by
  refine ⟨decode_of_op (op := .timerCancel) (by decide), fun s => ⟨fun ha => ?_, fun ha => ?_⟩⟩
  · change Host.Outcome.next (timerCancel s) = _
    rw [timerCancel, cancelActions_active ha]
  · change Host.Outcome.next (timerCancel s) = _
    rw [timerCancel, cancelActions_inactive ha, List.append_nil, ← ha]

/-- Settles O33: the two branches of `execTimerExpire`, by `expiryAccepted_eq_true`. -/
theorem timerExpireAcceptsOnlyTheCurrentTag : Obligations.TimerExpireAcceptsOnlyTheCurrentTag := by
  refine ⟨decode_of_op (op := .timerExpire) (by decide), fun s g => ⟨fun ha hg => ?_, fun h => ?_⟩⟩
  · exact if_pos (expiryAccepted_eq_true.mpr ⟨ha, hg⟩)
  · refine if_neg fun hacc => ?_
    obtain ⟨ha, hg⟩ := expiryAccepted_eq_true.mp hacc
    exact h.elim (fun hidle => absurd (ha.symm.trans hidle) nofun) (· hg)

end Sys2Proof.Machine
end

section
/-! FAMILY 42_host.md. The host's four rules (R140, R142 to R144), the frame it keeps outstanding (R141), and delivery
between two hosts on links that do not reorder (R145, R147). -/
namespace Sys2Proof.Machine

/-! ### The host's rules -/

theorem execHAck_idle {q : SeqBit} {s : State} (hw : s.sndWait = false) :
    execHAck q s = .next (drop .ignIdleAck s) := if_pos hw

theorem execHAck_mismatch {q : SeqBit} {s : State} (hw : s.sndWait = true) (hq : q ≠ s.ackexpected) :
    execHAck q s = .next (drop .ignAck s) := by
  rw [execHAck, if_neg (by simp [hw]), if_pos hq]

theorem execHAck_match {q : SeqBit} {s : State} (hw : s.sndWait = true) (hq : q = s.ackexpected) :
    execHAck q s = .next (ackedState s) := by
  rw [execHAck, if_neg (by simp [hw]), if_neg (not_not_intro hq)]
  rfl

theorem execHTimeout_idle {s : State} (hw : s.sndWait = false) : execHTimeout s = .refused .timeoutWhileIdle :=
  if_pos hw

/-- The timer is restarted, so a timer that still runs is cancelled first (R143, 41_timer.md R121). -/
theorem execHTimeout_waiting {s : State} (hw : s.sndWait = true) (hbuf : s.bufferLegal) :
    execHTimeout s = .next (setStatus .ok (sendTimed s.config.hostLink
      (frameBytes s.config .data s.nextframetosend s.bufData) s)) := by
  rw [execHTimeout, if_neg (by simp [hw]), hostFrame_legal hbuf, withUnit_ok]

theorem execHData_expected {q : SeqBit} {p : Bytes} {s : State} (hq : q = s.frameexpected) :
    execHData q p s = .next (deliveredState q p s) := if_pos hq

theorem execHData_reack {q : SeqBit} {p : Bytes} {s : State} (hq : q ≠ s.frameexpected)
    (hd : s.config.reackDuplicates = true) : execHData q p s = .next (reackedState s.config.hostLink q s) := by
  rw [execHData, if_neg hq, if_pos hd]
  rfl

theorem execHData_drop {q : SeqBit} {p : Bytes} {s : State} (hq : q ≠ s.frameexpected)
    (hd : s.config.reackDuplicates = false) : execHData q p s = .next (drop .ignSeq s) := by
  rw [execHData, if_neg hq, if_neg (by simp [hd])]

/-- Settles O10: an admitted H_SEND leaves `sentState`. -/
theorem hostSendStartsWaiting : Obligations.HostSendStartsWaiting := by
  refine ⟨decode_of_op (op := .hSend) (by decide), fun s p hr hi hp => ?_⟩
  change execHSend p s = _
  rw [execHSend_admitted (admission_eq_none.mpr ⟨hr, hi, hp⟩), sentState, frameBytes_length,
    List.append_assoc _ [_] [_]]
  rfl

/-- Settles O11: the three branches of H_ACK. -/
theorem hostAckReturnsToIdleOnlyOnAMatch : Obligations.HostAckReturnsToIdleOnlyOnAMatch :=
  ⟨decode_of_op (op := .hAck) (by decide), fun _ _ => ⟨execHAck_idle, execHAck_mismatch, execHAck_match⟩⟩

/-- Settles O12: the two branches of H_TIMEOUT. -/
theorem hostTimeoutRetransmitsTheSameFrame : Obligations.HostTimeoutRetransmitsTheSameFrame := by
  refine ⟨decode_of_op (op := .hTimeout) (by decide), fun s => ⟨fun hw hbuf => ?_, execHTimeout_idle⟩⟩
  change execHTimeout s = _
  rw [execHTimeout_waiting hw hbuf, ← frameBytes_length s.config .data s.nextframetosend s.bufData]
  rfl

/-- Settles O13: the three branches of H_DATA. -/
theorem hostDataDeliversOnlyTheExpectedBit : Obligations.HostDataDeliversOnlyTheExpectedBit := by
  refine ⟨decode_of_op (op := .hData) (by decide), fun s q p => ⟨fun hq => ?_, execHData_reack, execHData_drop⟩⟩
  change execHData q p s = _
  rw [execHData_expected hq, deliveredState, List.append_assoc]
  rfl

/-! ### The outstanding frame -/

/-- The only payload a legal host admits comes while it is IDLE (R140). -/
theorem State.hostLegal.idle_of_admission {s : State} {p : Bytes} (hs : s.hostLegal) (ha : admission p s = none) :
    s.sndWait = false := by
  obtain ⟨-, -, hintake, -⟩ := hs
  obtain ⟨-, hon, -⟩ := admission_eq_none.mp ha
  obtain ⟨-, hidle⟩ : s.orig = true ∧ s.sndWait = false := by simpa using hintake.symm.trans hon
  exact hidle

/-- While a host waits, H_SEND does not run, and the ACK that flips its bit ends the wait (R141). -/
theorem Effect.outstanding_kept {s t : State} {e : Event} (h : Effect s e t) (hs : s.Legal) (he : e.runTime = true)
    (hr : s.role = .host) (hw : s.sndWait = true) (hw' : t.sndWait = true) :
    t.nextframetosend = s.nextframetosend ∧ t.bufLen = s.bufLen ∧ t.bufData = s.bufData := by
  cases h with
  | boot => cases he
  | acked => cases hw'
  | sent p hb ha => exact absurd (hw.symm.trans ((hs.host hr).idle_of_admission ha)) nofun
  | forwarded l b q p hb hrouter => exact absurd (hr.symm.trans hrouter) nofun
  | _ => exact ⟨rfl, rfl, rfl⟩

/-- What a host sends on an expiry is its outstanding frame (R143). -/
theorem Effect.sends_hostFrame {s t : State} {g : Gen} {l : Link} {bytes : Bytes} (h : Effect s (.timer g) t)
    (hr : s.role = .host) (hs : s.actions = []) (hsend : .send l bytes ∈ t.actions) : hostFrame s = .ok bytes := by
  cases h with
  | hostTimeout g B hb hr' ha hw hB =>
    obtain ⟨-, rfl⟩ : l = s.config.hostLink ∧ bytes = B := by simpa [hs] using hsend
    exact hB
  | routerTimeout g B hb hrouter => exact absurd (hr.symm.trans hrouter) nofun
  | unbooted | stale => simp [hs] at hsend

/-- Settles O50: `Effect.outstanding_kept` and `Effect.sends_hostFrame`. -/
theorem theOutstandingFrameIsConstantWhileWaiting : Obligations.TheOutstandingFrameIsConstantWhileWaiting := by
  intro s t e hs ht he hr hw hw'
  obtain ⟨rest, -, h⟩ := ht.effect
  obtain ⟨hnext, hlen, hdata⟩ := h.outstanding_kept (hs.takeEvent rest) he hr hw hw'
  refine ⟨hostFrame_legal hs.buffer, hnext, hlen, hdata, hostFrame_congr h.config hnext hlen hdata, ?_⟩
  rintro l bytes hsend ⟨g, rfl⟩
  exact h.sends_hostFrame hr rfl hsend

/-! ### Sequence bits as rounds -/

theorem ofNat_one_inj {m n : Nat} : BitVec.ofNat 1 m = BitVec.ofNat 1 n ↔ m % 2 = n % 2 := by
  simp [← BitVec.toNat_inj]

theorem flipBit_ofNat (n : Nat) : flipBit (BitVec.ofNat 1 n) = BitVec.ofNat 1 (n + 1) := by
  refine (eq_flipBit_of_ne fun h => ?_).symm
  have := ofNat_one_inj.mp h
  omega

/-! ### One link that does not reorder -/

/-- A frame on the wire with its round: the number, from 0, of the payload it carries or acknowledges. -/
structure Stamped where
  frame : Transit
  round : Nat

/-- Of the frames to node `j`, none sent later than place `k` was delivered by the moves `done`. -/
def notOvertaken (log : List Stamped) (done : List Move) (j k : Nat) : Prop :=
  ∀ m ∈ done, ∀ k' x, m.carries = some k' → log[k']? = some x → x.frame.dst = j → k' ≤ k

/-- The move `m` brings node `j` the frame `x`, or a corrupted copy of it, from place `k` of the wire. -/
structure Arrival (log : List Stamped) (m : Move) (j k : Nat) (x : Stamped) : Prop where
  carries : m.carries = some k
  sent    : log[k]? = some x
  dst     : x.frame.dst = j

/-- The link `l` to node `j`: its frames were sent in the order of their rounds, which are below `top`, and what may
still arrive is of the round before `floor` or a later one. -/
structure OrderedLink (log : List Stamped) (done : List Move) (j : Nat) (l : Link) (content : Nat → Bytes → Prop)
    (floor top : Nat) : Prop where
  frames : ∀ x ∈ log, x.frame.dst = j → x.frame.link = l ∧ x.round < top ∧ content x.round x.frame.bytes
  sorted : log.Pairwise fun x y => x.frame.dst = j → y.frame.dst = j → x.round ≤ y.round
  floor_le : ∀ k x, log[k]? = some x → x.frame.dst = j → notOvertaken log done j k → floor ≤ x.round + 1

theorem notOvertaken.of_append_left {log more : List Stamped} {done : List Move} {j k : Nat}
    (h : notOvertaken (log ++ more) done j k) : notOvertaken log done j k := fun m hm k' x hc hx =>
  h m hm k' x hc (List.getElem?_append_left (List.getElem?_eq_some_iff.mp hx).1 ▸ hx)

theorem notOvertaken.of_concat {log : List Stamped} {done : List Move} {m : Move} {j k : Nat}
    (h : notOvertaken log (done ++ [m]) j k) : notOvertaken log done j k := fun m' hm =>
  h m' (List.mem_append_left _ hm)

section
variable {log : List Stamped} {done : List Move} {j : Nat} {l : Link} {content : Nat → Bytes → Prop} {floor top : Nat}

/-- A further move, with nothing new received on the link. -/
theorem OrderedLink.later (h : OrderedLink log done j l content floor top) (m : Move) :
    OrderedLink log (done ++ [m]) j l content floor top :=
  ⟨h.frames, h.sorted, fun k x hx hj hn => h.floor_le k x hx hj hn.of_concat⟩

/-- More may be known of each frame, and the rounds may end later. -/
theorem OrderedLink.weaken (h : OrderedLink log done j l content floor top) {content' : Nat → Bytes → Prop} {top' : Nat}
    (hc : ∀ r B, content r B → content' r B) (ht : top ≤ top') : OrderedLink log done j l content' floor top' := by
  refine ⟨fun x hx hj => ?_, h.sorted, h.floor_le⟩
  obtain ⟨hl, hr, hB⟩ := h.frames x hx hj
  exact ⟨hl, hr.trans_le ht, hc _ _ hB⟩

/-- A frame of round `floor` arrives: nothing before it can arrive any more. -/
theorem OrderedLink.advance (h : OrderedLink log done j l content floor top) {m : Move} {k : Nat} {x : Stamped}
    (hx : Arrival log m j k x) (hr : x.round = floor) :
    OrderedLink log (done ++ [m]) j l content (floor + 1) top := by
  refine ⟨h.frames, h.sorted, fun k' y hy hj' hn => ?_⟩
  have hle : k ≤ k' := hn m List.mem_concat_self k x hx.carries hx.sent hx.dst
  have hround : x.round ≤ y.round := by
    rcases hle.eq_or_lt with rfl | hlt
    · rw [Option.some.inj (hx.sent.symm.trans hy)]
    · obtain ⟨hk, hxk⟩ := List.getElem?_eq_some_iff.mp hx.sent
      obtain ⟨hk', hyk⟩ := List.getElem?_eq_some_iff.mp hy
      have hsorted := List.pairwise_iff_getElem.mp h.sorted k k' hk hk' hlt
      rw [hxk, hyk] at hsorted
      exact hsorted hx.dst hj'
  omega

/-- One more frame is sent; on the link itself it is of the latest round. -/
theorem OrderedLink.append (h : OrderedLink log done j l content floor top) {x : Stamped}
    (hx : x.frame.dst = j → x.frame.link = l ∧ x.round + 1 = top ∧ content x.round x.frame.bytes)
    (hfloor : floor ≤ top) : OrderedLink (log ++ [x]) done j l content floor top where
  frames := by
    intro y hy hj
    rcases List.mem_append.mp hy with hy | hy
    · exact h.frames y hy hj
    · obtain rfl := List.mem_singleton.mp hy
      obtain ⟨hl, hr, hB⟩ := hx hj
      exact ⟨hl, by omega, hB⟩
  sorted := by
    refine List.pairwise_append.mpr ⟨h.sorted, List.pairwise_singleton _ _, fun y hy z hz hyj hzj => ?_⟩
    obtain rfl := List.mem_singleton.mp hz
    obtain ⟨-, hlt, -⟩ := h.frames y hy hyj
    obtain ⟨-, hr, -⟩ := hx hzj
    omega
  floor_le := by
    intro k y hy hj hn
    rw [List.getElem?_append] at hy
    split at hy
    · exact h.floor_le k y hy hj hn.of_append_left
    · obtain rfl := List.mem_singleton.mp (List.mem_of_getElem? hy)
      obtain ⟨-, hr, -⟩ := hx hj
      omega

/-- On a link that does not reorder, the frame a move delivers was not overtaken. -/
theorem OrderedLink.notOvertaken (h : OrderedLink log done j l content floor top) {m : Move} {k : Nat} {x : Stamped}
    (hin : inOrder (log.map (·.frame)) (done ++ [m])) (hx : Arrival log m j k x) : notOvertaken log done j k := by
  intro m' hm' k' y hc hy hyj
  have hle := (List.pairwise_append.mp hin).2.2 m' hm' m (List.mem_singleton_self m)
  refine hle k' k y.frame x.frame hc hx.carries ?_ ?_ (hyj.trans hx.dst.symm) ?_
  · rw [List.getElem?_map, hy]
    rfl
  · rw [List.getElem?_map, hx.sent]
    rfl
  · obtain ⟨hyl, -⟩ := h.frames y (List.mem_of_getElem? hy) hyj
    obtain ⟨hxl, -⟩ := h.frames x (List.mem_of_getElem? hx.sent) hx.dst
    exact hyl.trans hxl.symm

/-- Where the rounds end with `floor`, the frame that arrives is of that round or of the one before. -/
theorem OrderedLink.arrives (h : OrderedLink log done j l content floor top) (htop : top ≤ floor + 1) {m : Move}
    {k : Nat} {x : Stamped} (hin : inOrder (log.map (·.frame)) (done ++ [m])) (hx : Arrival log m j k x) :
    (x.round = floor ∨ x.round + 1 = floor) ∧ content x.round x.frame.bytes := by
  have hlow := h.floor_le k x hx.sent hx.dst (h.notOvertaken hin hx)
  obtain ⟨-, hhigh, hB⟩ := h.frames x (List.mem_of_getElem? hx.sent) hx.dst
  exact ⟨by omega, hB⟩

end

/-- Links that do not reorder did not reorder what was on the wire before. -/
theorem inOrder.of_wire_append {wire more : List Transit} {ms : List Move} (h : inOrder (wire ++ more) ms) :
    inOrder wire ms := by
  have later : ∀ {k : Nat} {f : Transit}, wire[k]? = some f → (wire ++ more)[k]? = some f := fun hf =>
    (List.getElem?_append_left (List.getElem?_eq_some_iff.mp hf).1).trans hf
  exact h.imp fun hle k k' f f' hk hk' hf hf' => hle k k' f f' hk hk' (later hf) (later hf')

/-! ### The two links between an Originator and its peer -/

/-- The DATA frame of round `r`, where the sender accepted the payloads `sent` (R141). -/
def isDataOf (cf : Config) (sent : List Bytes) (r : Nat) (bytes : Bytes) : Prop :=
  ∃ p, sent[r]? = some p ∧ bytes = frameBytes cf .data (BitVec.ofNat 1 r) p

/-- The ACK frame of round `r` (R144). -/
def isAckOf (cf : Config) (r : Nat) (bytes : Bytes) : Prop := bytes = ackFrame cf (BitVec.ofNat 1 r)

/-- The DATA frame of round `r` with payload `p`, sent to the host on the right. -/
def dataSent (ca cb : Config) (r : Nat) (p : Bytes) : Stamped :=
  { frame := { dst := 1, link := cb.hostLink, bytes := frameBytes ca .data (BitVec.ofNat 1 r) p }, round := r }

/-- The ACK frame of round `r`, sent to the host on the left. -/
def ackSent (ca cb : Config) (r : Nat) : Stamped :=
  { frame := { dst := 0, link := ca.hostLink, bytes := ackFrame cb (BitVec.ofNat 1 r) }, round := r }

/-- After the moves `done`, with the frames `log` on the wire: the sender accepted the payloads `sent` and has the
acknowledgements of the first `acked`, and the receiver delivered `delivered`. -/
structure Exchange (ca cb : Config) (done : List Move) (log : List Stamped) (sent delivered : List Bytes)
    (acked : Nat) : Prop where
  acked_le : acked ≤ delivered.length
  sent_le : sent.length ≤ acked + 1
  delivered_prefix : delivered <+: sent
  toReceiver : OrderedLink log done 1 cb.hostLink (isDataOf ca sent) delivered.length sent.length
  toSender : OrderedLink log done 0 ca.hostLink (isAckOf cb) acked delivered.length

section
variable {ca cb : Config} {done : List Move} {log : List Stamped} {sent delivered : List Bytes} {acked : Nat}

theorem Exchange.later (h : Exchange ca cb done log sent delivered acked) (m : Move) :
    Exchange ca cb (done ++ [m]) log sent delivered acked :=
  { h with toReceiver := h.toReceiver.later m, toSender := h.toSender.later m }

/-- The sender accepts a payload when all before it are acknowledged. -/
theorem Exchange.accept (h : Exchange ca cb done log sent delivered acked) (hidle : sent.length = acked) (p : Bytes) :
    Exchange ca cb done log (sent ++ [p]) delivered acked where
  acked_le := h.acked_le
  sent_le := by simp [hidle]
  delivered_prefix := h.delivered_prefix.trans (List.prefix_append _ _)
  toReceiver := h.toReceiver.weaken
    (fun r B ⟨q, hq, hB⟩ => ⟨q, (List.getElem?_append_left (List.getElem?_eq_some_iff.mp hq).1).trans hq, hB⟩)
    (by simp)
  toSender := h.toSender

/-- The sender sends its outstanding frame, the first time or again. -/
theorem Exchange.sendData (h : Exchange ca cb done log sent delivered acked) {p : Bytes} (hp : sent[acked]? = some p) :
    Exchange ca cb done (log ++ [dataSent ca cb acked p]) sent delivered acked :=
  have hlt : acked < sent.length := (List.getElem?_eq_some_iff.mp hp).1
  { h with
    toReceiver := h.toReceiver.append
      (fun _ => ⟨rfl, Nat.le_antisymm hlt h.sent_le, p, hp, rfl⟩) h.delivered_prefix.length_le
    toSender := h.toSender.append nofun h.acked_le }

/-- The receiver acknowledges the payload it delivered last, the first time or again. -/
theorem Exchange.sendAck (h : Exchange ca cb done log sent delivered acked) {r : Nat} (hr : r + 1 = delivered.length) :
    Exchange ca cb done (log ++ [ackSent ca cb r]) sent delivered acked :=
  { h with
    toReceiver := h.toReceiver.append nofun h.delivered_prefix.length_le
    toSender := h.toSender.append (fun _ => ⟨rfl, hr, rfl⟩) h.acked_le }

/-- At the receiver arrives the frame it expects or the one it delivered last. -/
theorem Exchange.data_arrives (h : Exchange ca cb done log sent delivered acked) {m : Move} {k : Nat} {x : Stamped}
    (hin : inOrder (log.map (·.frame)) (done ++ [m])) (hx : Arrival log m 1 k x) :
    (x.round = delivered.length ∨ x.round + 1 = delivered.length) ∧ isDataOf ca sent x.round x.frame.bytes :=
  h.toReceiver.arrives (h.sent_le.trans (Nat.succ_le_succ h.acked_le)) hin hx

/-- At the sender arrives the acknowledgement it awaits or the one it took last. -/
theorem Exchange.ack_arrives (h : Exchange ca cb done log sent delivered acked) {m : Move} {k : Nat} {x : Stamped}
    (hin : inOrder (log.map (·.frame)) (done ++ [m])) (hx : Arrival log m 0 k x) :
    (x.round = acked ∨ x.round + 1 = acked) ∧ isAckOf cb x.round x.frame.bytes :=
  h.toSender.arrives (h.delivered_prefix.length_le.trans h.sent_le) hin hx

/-- The receiver delivers the frame it expects. -/
theorem Exchange.deliver (h : Exchange ca cb done log sent delivered acked) {m : Move} {k : Nat} {x : Stamped}
    {p : Bytes} (hx : Arrival log m 1 k x) (hr : x.round = delivered.length)
    (hp : sent[delivered.length]? = some p) : Exchange ca cb (done ++ [m]) log sent (delivered ++ [p]) acked where
  acked_le := h.acked_le.trans (by simp)
  sent_le := h.sent_le
  delivered_prefix := by
    obtain ⟨rest, rfl⟩ := h.delivered_prefix
    cases rest with
    | nil => simp at hp
    | cons q rest =>
      obtain rfl : q = p := by simpa using hp
      exact ⟨rest, by simp⟩
  toReceiver := by
    rw [List.length_append]
    exact h.toReceiver.advance hx hr
  toSender := (h.toSender.later m).weaken (fun _ _ => id) (by simp)

/-- The sender takes the acknowledgement it awaits. -/
theorem Exchange.acknowledge (h : Exchange ca cb done log sent delivered acked) {m : Move} {k : Nat} {x : Stamped}
    (hx : Arrival log m 0 k x) (hr : x.round = acked) :
    Exchange ca cb (done ++ [m]) log sent delivered (acked + 1) :=
  have hlt : x.round < delivered.length := (h.toSender.frames x (List.mem_of_getElem? hx.sent) hx.dst).2.1
  { h with
    acked_le := by omega
    sent_le := h.sent_le.trans (Nat.le_succ _)
    toReceiver := h.toReceiver.later m
    toSender := h.toSender.advance hx hr }

/-- Acknowledged payloads were delivered, and delivered ones accepted. -/
theorem Exchange.length_eq_of_le (h : Exchange ca cb done log sent delivered acked) (hle : sent.length ≤ acked) :
    sent.length = acked :=
  Nat.le_antisymm hle (h.acked_le.trans h.delivered_prefix.length_le)

/-- With every accepted payload acknowledged, all are delivered. -/
theorem Exchange.delivered_eq (h : Exchange ca cb done log sent delivered acked) (hidle : sent.length = acked) :
    delivered = sent :=
  h.delivered_prefix.eq_of_length (Nat.le_antisymm h.delivered_prefix.length_le (hidle.trans_le h.acked_le))

end

/-! ### A booted host -/

/-- The core of a host that runs with the parameters `cf`, booted as the Originator or not. -/
structure RunningHost (cf : Config) (orig : Bool) (s : State) : Prop where
  legal  : s.Legal
  config : s.config = cf
  booted : s.booted = true
  role   : s.role = .host
  orig   : s.orig = orig

theorem RunningHost.takeEvent {cf : Config} {o : Bool} {s : State} (h : RunningHost cf o s) (rest : List Event) :
    RunningHost cf o (s.takeEvent rest) :=
  ⟨h.legal.takeEvent rest, h.config, h.booted, h.role, h.orig⟩

/-- Only BOOT makes an Originator (10_state.md R22). -/
theorem Effect.orig {s t : State} {e : Event} (h : Effect s e t) (he : e.runTime = true) : t.orig = s.orig := by
  cases h with
  | boot => cases he
  | _ => rfl

theorem RunningHost.effect {cf : Config} {o : Bool} {s t : State} {e : Event} (hs : RunningHost cf o s)
    (h : Effect s e t) (he : e.runTime = true) : RunningHost cf o t :=
  ⟨h.legal hs.legal, h.config.trans hs.config, h.booted hs.booted, (h.role he).trans hs.role, (h.orig he).trans hs.orig⟩

/-- A host that is no Originator accepts no payload and waits for no acknowledgement (42_host.md R142, 10_state.md
R27). -/
theorem RunningHost.passive {cf : Config} {s : State} (h : RunningHost cf false s) :
    s.sndWait = false ∧ s.intakeEn = false := by
  obtain ⟨-, -, hintake, hwait, -⟩ := h.legal.host h.role
  rw [h.orig] at hintake hwait
  exact ⟨by simpa using hwait, hintake⟩

/-- Delivering an event to a core with nothing at its key port is a transition. -/
theorem State.Legal.react_effect {s t : State} {e : Event} (hs : s.Legal) (h : s.react e = .next t) :
    Effect (s.takeEvent []) e t := by
  have hstart : ({ s with inbox := [e], keyPort := none } : State).takeEvent [] = s.takeEvent [] := by
    rw [← hs.noKey]
    rfl
  exact hstart ▸ react_transition h

/-- The application's view of intake is the core's, after every run-time event (44_dispatcher.md R190, 10_state.md
R27). -/
theorem Effect.intakeOn {s t : State} {e : Event} {d : Node} (h : Effect s e t) (he : e.runTime = true)
    (hs : s.actions = []) (hd : d.intakeOn = s.intakeEn) : (d.performAll t.actions).intakeOn = t.intakeEn := by
  cases h with
  | boot => cases he
  | _ => simp [hs, hd]

/-! ### What one event does to the sender -/

/-- The sender's registers with `acked` of the payloads `sent` acknowledged. -/
structure SenderAt (s : State) (sent : List Bytes) (acked : Nat) : Prop where
  ackexpected : s.ackexpected = BitVec.ofNat 1 acked
  sndWait     : s.sndWait = decide (acked < sent.length)
  outstanding : s.sndWait = true → sent[acked]? = some s.bufData

theorem SenderAt.idle {s : State} {sent : List Bytes} {acked : Nat} (h : SenderAt s sent acked)
    (hw : s.sndWait = false) : sent.length ≤ acked := by
  simpa [hw] using h.sndWait

theorem SenderAt.congr {s t : State} {sent : List Bytes} {acked : Nat} (h : SenderAt s sent acked)
    (ha : t.ackexpected = s.ackexpected) (hw : t.sndWait = s.sndWait) (hb : t.bufData = s.bufData) :
    SenderAt t sent acked where
  ackexpected := ha.trans h.ackexpected
  sndWait := hw.trans h.sndWait
  outstanding := by
    rw [hw, hb]
    exact h.outstanding

/-- The sender's transition to `t` leaves an `Exchange` with what it sent. -/
def SenderGoesOn (ca cb : Config) (done : List Move) (log : List Stamped) (sent delivered : List Bytes)
    (t : State) : Prop :=
  ∃ new acked, Exchange ca cb done (log ++ new) sent delivered acked ∧ SenderAt t sent acked ∧
    t.actions.flatMap (sentBy [ca, cb] 0) = new.map (·.frame)

@[simp] theorem sentBy_tstart (cfs : List Config) (i : Nat) (g : Gen) (n : Nat) : sentBy cfs i (.tstart g n) = [] := rfl

@[simp] theorem sentBy_deliver (cfs : List Config) (i : Nat) (p : Bytes) : sentBy cfs i (.deliver p) = [] := rfl

@[simp] theorem sentBy_intake (cfs : List Config) (i : Nat) (on : Bool) : sentBy cfs i (.intake on) = [] := rfl

theorem sentBy_left (ca cb : Config) (bytes : Bytes) :
    sentBy [ca, cb] 0 (.send ca.hostLink bytes) = [{ dst := 1, link := cb.hostLink, bytes := bytes }] := by
  simp [sentBy, linkPeer, rightLink, rightPeer, leftLink]

theorem sentBy_right (ca cb : Config) (bytes : Bytes) :
    sentBy [ca, cb] 1 (.send cb.hostLink bytes) = [{ dst := 0, link := ca.hostLink, bytes := bytes }] := by
  simp [sentBy, linkPeer, rightLink, leftPeer, leftLink]

section
variable {ca cb : Config} {done : List Move} {log : List Stamped} {sent delivered : List Bytes} {acked : Nat}
  {s t : State} {m : Move}

/-- The sender's registers are as they were, and it sent nothing. -/
theorem Exchange.sender_quiet (hE : Exchange ca cb done log sent delivered acked) (hS : SenderAt t sent acked)
    (ht : t.actions.flatMap (sentBy [ca, cb] 0) = []) :
    SenderGoesOn ca cb (done ++ [m]) log sent delivered t :=
  ⟨[], acked, by simpa using hE.later m, hS, ht⟩

/-- A payload is offered only while the sender is IDLE, and becomes the outstanding frame. -/
theorem Exchange.sender_payload (hE : Exchange ca cb done log sent delivered acked) (hS : SenderAt s sent acked)
    (hs : RunningHost ca true s) (ha : s.actions = []) (hi : s.intakeEn = true) {p : Bytes}
    (hp : p.length ≤ s.config.maxMsg) (h : Effect s (.payload p) t) :
    SenderGoesOn ca cb (done ++ [m]) log (sent ++ [p]) delivered t := by
  have hadm : admission p s = none := admission_eq_none.mpr ⟨hs.role, hi, hp⟩
  obtain rfl := h.unique (.sent p hs.booted hadm)
  have hidle : sent.length = acked :=
    hE.length_eq_of_le (hS.idle ((hs.legal.host hs.role).idle_of_admission hadm))
  have hlast : (sent ++ [p])[acked]? = some p := by simp [← hidle]
  obtain ⟨hack, -⟩ := hs.legal.host hs.role
  refine ⟨[dataSent ca cb acked p], acked, ((hE.later m).accept hidle p).sendData hlast, ⟨hS.ackexpected, ?_, ?_⟩, ?_⟩
  · simp [hidle]
  · exact fun _ => hlast
  · simp [ha, hs.config, sentBy_left, ← hack, hS.ackexpected, dataSent]

/-- An accepted expiry sends the outstanding frame again, and any other changes nothing. -/
theorem Exchange.sender_expiry (hE : Exchange ca cb done log sent delivered acked) (hS : SenderAt s sent acked)
    (hs : RunningHost ca true s) (ha : s.actions = []) {g : Gen} (h : Effect s (.timer g) t) :
    SenderGoesOn ca cb (done ++ [m]) log sent delivered t := by
  cases h with
  | unbooted e he hb => exact absurd (hs.booted.symm.trans hb) nofun
  | stale => exact hE.sender_quiet (hS.congr rfl rfl rfl) (by simp [ha])
  | routerTimeout g B hb hr => exact absurd (hs.role.symm.trans hr) nofun
  | hostTimeout g B hb hr hacc hw hB =>
    obtain rfl : frameBytes s.config .data s.nextframetosend s.bufData = B := by
      simpa [hostFrame_legal hs.legal.buffer] using hB
    obtain ⟨hack, -⟩ := hs.legal.host hs.role
    refine ⟨[dataSent ca cb acked s.bufData], acked, (hE.later m).sendData (hS.outstanding hw),
      hS.congr rfl rfl rfl, ?_⟩
    simp [ha, hs.config, sentBy_left, ← hack, hS.ackexpected, dataSent]

/-- A frame that arrives at the sender acknowledges the outstanding payload, or is ignored. -/
theorem Exchange.sender_frame (hE : Exchange ca cb done log sent delivered acked) (hS : SenderAt s sent acked)
    (hs : RunningHost ca true s) (ha : s.actions = []) {k : Nat} {x : Stamped} {l : Link}
    (hin : inOrder (log.map (·.frame)) (done ++ [m])) (hx : Arrival log m 0 k x)
    (h : Effect s (.frame l x.frame.bytes) t) :
    SenderGoesOn ca cb (done ++ [m]) log sent delivered t := by
  obtain ⟨hround, hbytes⟩ := hE.ack_arrives hin hx
  rw [hbytes] at h
  cases h with
  | unbooted e he hb => exact absurd (hs.booted.symm.trans hb) nofun
  | discard | ignored => exact hE.sender_quiet (hS.congr rfl rfl rfl) (by simp [ha])
  | reack l b q p hb hv | delivered l b q p hb hr hv => exact absurd (validateFrame_frameBytes hv).1 nofun
  | forwarded l b q p hb hr | released l b q p hb hr => exact absurd (hs.role.symm.trans hr) nofun
  | acked l b q p hb hr hv hw hq =>
    obtain ⟨-, rfl, -⟩ := validateFrame_frameBytes hv
    have hbit := ofNat_one_inj.mp (hq.trans hS.ackexpected)
    refine ⟨[], acked + 1, ?_, ⟨?_, ?_, nofun⟩, by simp [ha]⟩
    · rw [List.append_nil]
      exact hE.acknowledge hx (by omega)
    · rw [ackedState_ackexpected, hS.ackexpected, flipBit_ofNat]
    · have := hE.sent_le
      simpa using this

end

/-! ### What one event does to the receiver -/

/-- The receiver's transition to `t`, with the application's part in `d`, leaves an `Exchange` with what it sent. -/
def ReceiverGoesOn (ca cb : Config) (done : List Move) (log : List Stamped) (sent : List Bytes) (acked : Nat) (d : Node)
    (t : State) : Prop :=
  ∃ new, Exchange ca cb done (log ++ new) sent (d.performAll t.actions).delivered acked ∧
    t.frameexpected = BitVec.ofNat 1 (d.performAll t.actions).delivered.length ∧
    t.actions.flatMap (sentBy [ca, cb] 1) = new.map (·.frame)

section
variable {ca cb : Config} {done : List Move} {log : List Stamped} {sent : List Bytes} {acked : Nat} {d : Node}
  {s t : State} {m : Move}

/-- The receiver expects the frame it did before, and neither sent nor delivered anything. -/
theorem Exchange.receiver_quiet (hE : Exchange ca cb done log sent d.delivered acked)
    (hR : t.frameexpected = BitVec.ofNat 1 d.delivered.length)
    (hd : (d.performAll t.actions).delivered = d.delivered) (ht : t.actions.flatMap (sentBy [ca, cb] 1) = []) :
    ReceiverGoesOn ca cb (done ++ [m]) log sent acked d t := by
  refine ⟨[], ?_, ?_, ht⟩
  · simpa [hd] using hE.later m
  · rwa [hd]

/-- The receiver waits for no acknowledgement, so every expiry is stale. -/
theorem Exchange.receiver_expiry (hE : Exchange ca cb done log sent d.delivered acked)
    (hR : s.frameexpected = BitVec.ofNat 1 d.delivered.length) (hs : RunningHost cb false s) (ha : s.actions = [])
    {g : Gen} (h : Effect s (.timer g) t) : ReceiverGoesOn ca cb (done ++ [m]) log sent acked d t := by
  cases h with
  | unbooted e he hb => exact absurd (hs.booted.symm.trans hb) nofun
  | stale => exact hE.receiver_quiet hR (by simp [ha]) (by simp [ha])
  | routerTimeout g B hb hr => exact absurd (hs.role.symm.trans hr) nofun
  | hostTimeout g B hb hr hacc hw => exact absurd (hs.passive.1.symm.trans hw) nofun

/-- A frame that arrives at the receiver is delivered if it is the expected one, and otherwise at most acknowledged
again. -/
theorem Exchange.receiver_frame (hE : Exchange ca cb done log sent d.delivered acked)
    (hR : s.frameexpected = BitVec.ofNat 1 d.delivered.length) (hs : RunningHost cb false s) (ha : s.actions = [])
    {k : Nat} {x : Stamped} {l : Link}
    (hin : inOrder (log.map (·.frame)) (done ++ [m])) (hx : Arrival log m 1 k x)
    (h : Effect s (.frame l x.frame.bytes) t) :
    ReceiverGoesOn ca cb (done ++ [m]) log sent acked d t := by
  obtain ⟨hround, p, hp, hbytes⟩ := hE.data_arrives hin hx
  rw [hbytes] at h
  cases h with
  | unbooted e he hb => exact absurd (hs.booted.symm.trans hb) nofun
  | discard | ignored => exact hE.receiver_quiet hR (by simp [ha]) (by simp [ha])
  | acked l b q p' hb hr hv => exact absurd (validateFrame_frameBytes hv).1 nofun
  | forwarded l b q p hb hr | released l b q p hb hr => exact absurd (hs.role.symm.trans hr) nofun
  | delivered l b q p' hb hr hv hq =>
    obtain ⟨-, rfl, rfl⟩ := validateFrame_frameBytes hv
    have hbit := ofNat_one_inj.mp (hq.trans hR)
    have hcurrent : x.round = d.delivered.length := by omega
    have hdel : (d.performAll (deliveredState (BitVec.ofNat 1 x.round) p' s).actions).delivered =
        d.delivered ++ [p'] := by simp [ha]
    refine ⟨[ackSent ca cb x.round], ?_, ?_, ?_⟩
    · rw [hdel]
      exact (hE.deliver hx hcurrent (hcurrent ▸ hp)).sendAck (by simp [hcurrent])
    · rw [hdel, deliveredState_frameexpected, hR, flipBit_ofNat, List.length_append, List.length_singleton]
    · simp [ha, hs.config, sentBy_right, ackSent]
  | reack l b q p' hb hv hd hq =>
    obtain ⟨-, rfl, -⟩ := validateFrame_frameBytes hv
    have hbit : ¬ x.round % 2 = d.delivered.length % 2 := fun h => hq ((ofNat_one_inj.mpr h).trans hR.symm)
    have hdel : (d.performAll (reackedState (ackLink s) (BitVec.ofNat 1 x.round) s).actions).delivered =
        d.delivered := by simp [ha]
    refine ⟨[ackSent ca cb x.round], ?_, ?_, ?_⟩
    · rw [hdel]
      exact (hE.later m).sendAck (by omega)
    · rwa [hdel]
    · simp [ha, hs.config, ackLink_host hs.role, sentBy_right, ackSent]

end

/-! ### The moves of two hosts -/

/-- The run-time event a move delivers, and at which node `i`, whose state is `d` (44_dispatcher.md R190). -/
inductive MoveDelivers (c : Chain) (d : Node) : Move → Nat → Event → Prop where
  | frame (i k : Nat) (f : Transit) (hf : c.wire[k]? = some f) (hi : f.dst = i) :
      MoveDelivers c d (.frame k) i (.frame f.link f.bytes)
  | corrupted (i k : Nat) (b : Bytes) (l : Link) : MoveDelivers c d (.corrupted k b) i (.frame l b)
  | expiry (i k : Nat) (g : Gen) : MoveDelivers c d (.expiry i k) i (.timer g)
  | payload (i : Nat) (p : Bytes) (hon : d.intakeOn = true) (hp : p.length ≤ d.core.config.maxMsg) :
      MoveDelivers c d (.payload i p) i (.payload p)
  | diag (i : Nat) : MoveDelivers c d (.diag i) i .diag

theorem MoveDelivers.runTime {c : Chain} {d : Node} {m : Move} {i : Nat} {e : Event} (h : MoveDelivers c d m i e) :
    e.runTime = true := by cases h <;> rfl

/-- From `c` to `c'` the node `i`, in state `d`, reacted to the event `e` and performed its actions; its facility may
have let go of an expiry for that. -/
def Reacted (c c' : Chain) (i : Nat) (e : Event) (d : Node) : Prop :=
  ∃ xs t, c.nodes[i]? = some d ∧ d.core.react e = .next t ∧
    c'.nodes = c.nodes.set i (({ d with core := t, expiries := xs } : Node).performAll t.actions) ∧
    c'.wire = c.wire ++ t.actions.flatMap (sentBy c.configs i)

theorem deliverReady_reacted {c c' : Chain} {i : Nat} {e : Event} (h : c.deliverReady i e = some c') :
    ∃ d, Reacted c c' i e d := by
  obtain ⟨-, h⟩ := deliverReady_eq_some h
  obtain ⟨d, t, hd, ht, hn, hw⟩ := deliver_nodes h
  exact ⟨d, d.expiries, t, hd, ht, hn, hw⟩

/-- An expiry leaves the facility when it is delivered. -/
theorem expire_reacted {c c' : Chain} {i k : Nat} (h : c.expire i k = some c') :
    ∃ g d, Reacted c c' i (.timer g) d := by
  unfold Chain.expire at h
  split at h
  · cases h
  next d hd =>
  split at h
  · cases h
  next x hx =>
  split at h
  case isFalse => cases h
  obtain ⟨-, h⟩ := deliverReady_eq_some h
  obtain ⟨d', t, hd', ht, hn, hw⟩ := deliver_nodes h
  obtain ⟨hi, -⟩ := List.getElem?_eq_some_iff.mp hd
  obtain rfl : { d with expiries := d.expiries.eraseIdx k } = d' := by simpa [hi] using hd'
  rw [configs_set (d' := { d with expiries := d.expiries.eraseIdx k }) hd rfl] at hw
  exact ⟨x.gen, d, d.expiries.eraseIdx k, t, hd, ht, by simpa using hn, hw⟩

/-- A move other than BOOT delivers its event. -/
theorem move_delivers {c c' : Chain} {m : Move} (hm : ∀ i cfg, m ≠ .boot i cfg) (h : c.move m = some c') :
    ∃ i e d, MoveDelivers c d m i e ∧ Reacted c c' i e d := by
  cases m with
  | boot i cfg => exact absurd rfl (hm i cfg)
  | frame k =>
    obtain ⟨f, hf, h⟩ := Option.bind_eq_some_iff.mp h
    obtain ⟨d, hd⟩ := deliverReady_reacted h
    exact ⟨_, _, d, .frame _ k f hf rfl, hd⟩
  | corrupted k b =>
    obtain ⟨f, -, h⟩ := Option.bind_eq_some_iff.mp h
    obtain ⟨d, hd⟩ := deliverReady_reacted h
    exact ⟨_, _, d, .corrupted _ k b _, hd⟩
  | expiry i k =>
    obtain ⟨g, d, hd⟩ := expire_reacted h
    exact ⟨_, _, d, .expiry i k g, hd⟩
  | payload i p =>
    simp only [Chain.move, Chain.offer] at h
    split at h
    · cases h
    next d hd =>
    split at h
    case isFalse => cases h
    next hoffer =>
    obtain ⟨d', xs, t, hd', hrest⟩ := deliverReady_reacted h
    obtain rfl : d = d' := Option.some.inj (hd.symm.trans hd')
    obtain ⟨hon, hp⟩ : d.intakeOn = true ∧ p.length ≤ d.core.config.maxMsg := by simpa [payloadFits] using hoffer
    exact ⟨_, _, d, .payload i p hon hp, xs, t, hd', hrest⟩
  | diag i =>
    obtain ⟨d, hd⟩ := deliverReady_reacted h
    exact ⟨_, _, d, .diag i, hd⟩

/-! ### Two hosts that exchange payloads -/

/-- A node that runs as a host, whose application sees the core's intake. -/
structure HostNode (cf : Config) (orig : Bool) (d : Node) : Prop where
  running : RunningHost cf orig d.core
  intake  : d.intakeOn = d.core.intakeEn

theorem HostNode.react_effect {cf : Config} {o : Bool} {d : Node} {e : Event} {t : State} (h : HostNode cf o d)
    (ht : d.core.react e = .next t) : Effect (d.core.takeEvent []) e t :=
  h.running.legal.react_effect ht

theorem HostNode.performAll {cf : Config} {o : Bool} {d : Node} {e : Event} {t : State} (h : HostNode cf o d)
    (ht : d.core.react e = .next t) (he : e.runTime = true) (xs : List Expiry) :
    HostNode cf o (({ d with core := t, expiries := xs } : Node).performAll t.actions) := by
  have heff := h.react_effect ht
  constructor
  · rw [performAll_core]
    exact (h.running.takeEvent []).effect heff he
  · rw [performAll_core]
    exact heff.intakeOn he rfl h.intake

theorem offered_concat_payload (i : Nat) (done : List Move) (p : Bytes) :
    offered i (done ++ [.payload i p]) = offered i done ++ [p] := by
  simp [offered]

theorem offered_concat_other {i : Nat} {m : Move} (hm : ∀ p, m ≠ .payload i p) (done : List Move) :
    offered i (done ++ [m]) = offered i done := by
  cases m with
  | payload j p =>
    have hj : j ≠ i := by
      rintro rfl
      exact hm p rfl
    simp [offered, hj]
  | _ => simp [offered]

/-- After the moves `done` the chain is an Originator and its peer, with an `Exchange` of the payloads offered. -/
structure InStep (ca cb : Config) (done : List Move) (c : Chain) (sender receiver : Node) (log : List Stamped)
    (acked : Nat) : Prop where
  nodes         : c.nodes = [sender, receiver]
  wire          : c.wire = log.map (·.frame)
  left          : HostNode ca true sender
  right         : HostNode cb false receiver
  exchange      : Exchange ca cb done log (offered 0 done) receiver.delivered acked
  senderAt      : SenderAt sender.core (offered 0 done) acked
  frameexpected : receiver.core.frameexpected = BitVec.ofNat 1 receiver.delivered.length

section
variable {ca cb : Config} {done : List Move} {c c' : Chain} {sender receiver : Node} {log : List Stamped} {acked : Nat}
  {m : Move} {e : Event}

theorem InStep.configs (h : InStep ca cb done c sender receiver log acked) : c.configs = [ca, cb] := by
  simp [Chain.configs, h.nodes, h.left.running.config, h.right.running.config]

/-- The frame a move delivers has its stamp. -/
theorem InStep.arrival (h : InStep ca cb done c sender receiver log acked) {j k : Nat} {f : Transit}
    (hf : c.wire[k]? = some f) (hj : f.dst = j) : ∃ x, Arrival log (.frame k) j k x ∧ x.frame = f := by
  obtain ⟨x, hx, rfl⟩ : ∃ x, log[k]? = some x ∧ x.frame = f := by simpa [h.wire] using hf
  exact ⟨x, ⟨rfl, hx, hj⟩, rfl⟩

/-- Each move at the sender goes on with the exchange. -/
theorem InStep.sender_goesOn (h : InStep ca cb done c sender receiver log acked) {t : State}
    (hin : inOrder (log.map (·.frame)) (done ++ [m])) (hdet : corruptionDetected [ca, cb] [m])
    (hm : MoveDelivers c sender m 0 e) (ht : sender.core.react e = .next t) :
    SenderGoesOn ca cb (done ++ [m]) log (offered 0 (done ++ [m])) receiver.delivered t := by
  have hs := h.left.running.takeEvent []
  have hS : SenderAt (sender.core.takeEvent []) (offered 0 done) acked := h.senderAt.congr rfl rfl rfl
  have heff := h.left.react_effect ht
  cases hm with
  | frame _ k f hf hi =>
    rw [offered_concat_other (m := .frame k) (fun _ => nofun)]
    obtain ⟨x, hx, rfl⟩ := h.arrival hf hi
    exact h.exchange.sender_frame hS hs rfl hin hx heff
  | corrupted _ k b l =>
    rw [offered_concat_other (m := .corrupted k b) (fun _ => nofun)]
    obtain ⟨why, hv⟩ := hdet k b (by simp) ca (by simp)
    obtain rfl := heff.unique (.discard l b why hs.booted (hs.config ▸ hv))
    exact h.exchange.sender_quiet (hS.congr rfl rfl rfl) rfl
  | expiry _ k g =>
    rw [offered_concat_other (m := .expiry 0 k) (fun _ => nofun)]
    exact h.exchange.sender_expiry hS hs rfl heff
  | payload _ p hon hp =>
    rw [offered_concat_payload]
    exact h.exchange.sender_payload hS hs rfl (h.left.intake ▸ hon) hp heff
  | diag =>
    rw [offered_concat_other (m := .diag 0) (fun _ => nofun)]
    obtain rfl := heff.unique (.diag hs.booted)
    exact h.exchange.sender_quiet (hS.congr rfl rfl rfl) rfl

/-- Each move at the receiver goes on with the exchange; it is offered no payload. -/
theorem InStep.receiver_goesOn (h : InStep ca cb done c sender receiver log acked) {t : State}
    (hin : inOrder (log.map (·.frame)) (done ++ [m])) (hdet : corruptionDetected [ca, cb] [m])
    (hm : MoveDelivers c receiver m 1 e) (ht : receiver.core.react e = .next t) (xs : List Expiry) :
    offered 0 (done ++ [m]) = offered 0 done ∧
      ReceiverGoesOn ca cb (done ++ [m]) log (offered 0 done) acked { receiver with core := t, expiries := xs } t := by
  have hs := h.right.running.takeEvent []
  have heff := h.right.react_effect ht
  have hE : Exchange ca cb done log (offered 0 done)
      ({ receiver with core := t, expiries := xs } : Node).delivered acked := h.exchange
  have hR : (receiver.core.takeEvent []).frameexpected = BitVec.ofNat 1 receiver.delivered.length := h.frameexpected
  cases hm with
  | frame _ k f hf hi =>
    obtain ⟨x, hx, rfl⟩ := h.arrival hf hi
    exact ⟨offered_concat_other (by simp) _, hE.receiver_frame hR hs rfl hin hx heff⟩
  | corrupted _ k b l =>
    obtain ⟨why, hv⟩ := hdet k b (by simp) cb (by simp)
    obtain rfl := heff.unique (.discard l b why hs.booted (hs.config ▸ hv))
    exact ⟨offered_concat_other (by simp) _, hE.receiver_quiet hR rfl rfl⟩
  | expiry _ k g => exact ⟨offered_concat_other (by simp) _, hE.receiver_expiry hR hs rfl heff⟩
  | payload _ p hon hp =>
    rw [h.right.intake, h.right.running.passive.2] at hon
    cases hon
  | diag =>
    obtain rfl := heff.unique (.diag hs.booted)
    exact ⟨offered_concat_other (by simp) _, hE.receiver_quiet hR rfl rfl⟩

/-- Every move but BOOT keeps the two hosts in step. -/
theorem InStep.move (h : InStep ca cb done c sender receiver log acked) (hm : ∀ i cfg, m ≠ .boot i cfg)
    (hin : inOrder c.wire (done ++ [m])) (hdet : corruptionDetected [ca, cb] [m]) (hmove : c.move m = some c') :
    ∃ sender' receiver' log' acked', InStep ca cb (done ++ [m]) c' sender' receiver' log' acked' := by
  obtain ⟨i, e, d, hd, xs, t, hi, ht, hn, hw⟩ := move_delivers hm hmove
  rw [h.nodes] at hi hn
  rw [h.configs, h.wire] at hw
  rw [h.wire] at hin
  match i with
  | 0 =>
    obtain rfl : sender = d := by simpa using hi
    obtain ⟨new, acked', hE, hS, hsent⟩ := h.sender_goesOn hin hdet hd ht
    refine ⟨_, receiver, log ++ new, acked', hn, ?_, h.left.performAll ht hd.runTime xs, h.right, hE, ?_,
      h.frameexpected⟩
    · rw [hw, hsent, List.map_append]
    · rwa [performAll_core]
  | 1 =>
    obtain rfl : receiver = d := by simpa using hi
    obtain ⟨hoffered, new, hE, hR, hsent⟩ := h.receiver_goesOn hin hdet hd ht xs
    refine ⟨sender, _, log ++ new, acked, hn, ?_, h.left, h.right.performAll ht hd.runTime xs, ?_, ?_, ?_⟩
    · rw [hw, hsent, List.map_append]
    · rwa [hoffered]
    · rw [hoffered]
      exact h.senderAt
    · rwa [performAll_core]
  | _ + 2 => simp at hi

theorem run_concat (ms : List Move) (m : Move) (c : Chain) : c.run (ms ++ [m]) = (c.run ms).bind (Chain.move m) := by
  induction ms generalizing c with
  | nil => simp [Chain.run]
  | cons m' ms ih => simp [Chain.run, ih, Option.bind_assoc]

/-- Two hosts in step stay so over every run without BOOT. -/
theorem InStep.run {ms : List Move} (h : InStep ca cb [] c sender receiver log acked) (hboot : neverRebooted ms)
    (hin : inOrder c'.wire ms) (hdet : corruptionDetected [ca, cb] ms) (hrun : c.run ms = some c') :
    ∃ sender' receiver' log' acked', InStep ca cb ms c' sender' receiver' log' acked' := by
  induction ms using List.reverseRecOn generalizing c' with
  | nil =>
    cases hrun
    exact ⟨_, _, _, _, h⟩
  | append_singleton ms m ih =>
    rw [run_concat] at hrun
    obtain ⟨c1, hrun, hmove⟩ := Option.bind_eq_some_iff.mp hrun
    obtain ⟨more, hwire⟩ := move_wire hmove
    rw [hwire] at hin
    have hin1 : inOrder c1.wire (ms ++ [m]) := hin.of_wire_append
    obtain ⟨s1, r1, log1, acked1, h1⟩ := ih (fun i cfg hmem => hboot i cfg (List.mem_append_left _ hmem))
      (List.pairwise_append.mp hin1).1 (fun k b hmem => hdet k b (List.mem_append_left _ hmem)) hrun
    refine h1.move ?_ hin1 (fun k b hmem => hdet k b (List.mem_append_right _ hmem)) hmove
    rintro i cfg rfl
    exact hboot i cfg List.mem_concat_self

end

/-! ### The BOOTs -/

theorem originator_host {cfg : BootCfg} (hr : cfg.role = .host) : originator cfg = cfg.orig := by simp [originator, hr]

theorem powerOn_legal (cf : Config) : (Node.powerOn cf).core.Legal where
  noKey    := rfl
  buffer   := ⟨rfl, Nat.zero_le _⟩
  tag      := Nat.two_pow_pos _
  fault    := powerOnMeetsTheInvariant.fault
  status   := powerOnMeetsTheInvariant.status
  host     := powerOnMeetsTheInvariant.host
  router   := powerOnMeetsTheInvariant.router
  unbooted := powerOnMeetsTheInvariant.unbooted

/-- A host just booted: no payload is accepted or delivered yet. -/
structure FreshHost (cf : Config) (orig : Bool) (d : Node) : Prop where
  node          : HostNode cf orig d
  ackexpected   : d.core.ackexpected = 0#1
  frameexpected : d.core.frameexpected = 0#1
  sndWait       : d.core.sndWait = false
  delivered     : d.delivered = []

/-- The record after the first BOOT of a core. -/
def firstBoot (cfg : BootCfg) (cf : Config) : State := bootState cfg ((Node.powerOn cf).core.takeEvent [])

theorem firstBoot_actions {cfg : BootCfg} (hr : cfg.role = .host) (cf : Config) :
    (firstBoot cfg cf).actions = [.intake cfg.orig] := by
  change bootAnnouncement cfg = _
  rw [bootAnnouncement, hr]

theorem firstBoot_running {cfg : BootCfg} (hr : cfg.role = .host) (cf : Config) :
    RunningHost cf cfg.orig (firstBoot cfg cf) where
  legal  := (Effect.boot cfg).legal ((powerOn_legal cf).takeEvent [])
  config := rfl
  booted := rfl
  role   := hr
  orig   := originator_host hr

/-- The first BOOT of a node as a host sends nothing. -/
theorem boot_powerOn {c c' : Chain} {i : Nat} {cf : Config} {cfg : BootCfg} (hr : cfg.role = .host)
    (hi : c.nodes[i]? = some (Node.powerOn cf)) (h : c.move (.boot i cfg) = some c') :
    ∃ d, FreshHost cf cfg.orig d ∧ c'.nodes = c.nodes.set i d ∧ c'.wire = c.wire := by
  simp only [Chain.move, Chain.bootNode, hi] at h
  split at h
  case isFalse => cases h
  obtain ⟨d, t, hd, ht, hn, hw⟩ := deliver_nodes h
  obtain ⟨hlt, -⟩ := List.getElem?_eq_some_iff.mp hi
  obtain rfl : { Node.powerOn cf with deployed := some cfg, expiries := [], starts := 0 } = d := by simpa [hlt] using hd
  obtain rfl : t = firstBoot cfg cf := ((powerOn_legal cf).react_effect ht).unique (.boot cfg)
  rw [firstBoot_actions hr] at hn hw
  exact ⟨_, ⟨⟨firstBoot_running hr cf, (originator_host hr).symm⟩, rfl, rfl, rfl, rfl⟩, by simpa using hn,
    by simpa using hw⟩

/-- Before any payload is offered, two hosts just booted are in step. -/
theorem FreshHost.inStep {ca cb : Config} {sender receiver : Node} {c : Chain} (hs : FreshHost ca true sender)
    (hr : FreshHost cb false receiver) (hn : c.nodes = [sender, receiver]) (hw : c.wire = []) :
    InStep ca cb [] c sender receiver [] 0 where
  nodes := hn
  wire := hw
  left := hs.node
  right := hr.node
  exchange := by
    rw [hr.delivered]
    exact ⟨Nat.le_refl _, Nat.zero_le _, List.prefix_refl _, ⟨nofun, .nil, nofun⟩, ⟨nofun, .nil, nofun⟩⟩
  senderAt := ⟨hs.ackexpected, hs.sndWait, fun hw => absurd (hs.sndWait.symm.trans hw) nofun⟩
  frameexpected := by
    rw [hr.delivered]
    exact hr.frameexpected

/-- The chain after the BOOTs of the two hosts. -/
theorem inStep_of_boots {ca cb : Config} {a b : BootCfg} {ms : List Move} {c : Chain} (ha : a.role = .host)
    (hao : a.orig = true) (hb : b.role = .host) (hbo : b.orig = false)
    (hrun : (Chain.powerOn [ca, cb]).run (.boot 0 a :: .boot 1 b :: ms) = some c) :
    ∃ c0 sender receiver, InStep ca cb [] c0 sender receiver [] 0 ∧ c0.run ms = some c := by
  obtain ⟨c1, h1, hrun⟩ := Option.bind_eq_some_iff.mp hrun
  obtain ⟨c0, h0, hrun⟩ := Option.bind_eq_some_iff.mp hrun
  obtain ⟨sender, hs, hn1, hw1⟩ := boot_powerOn (cf := ca) ha rfl h1
  obtain ⟨receiver, hr, hn0, hw0⟩ := boot_powerOn (cf := cb) hb (by rw [hn1]; rfl) h0
  refine ⟨c0, sender, receiver, (hao ▸ hs).inStep (hbo ▸ hr) ?_ ?_, hrun⟩
  · rw [hn0, hn1]
    rfl
  · rw [hw0, hw1]
    rfl

/-- Settles O56: after the BOOTs the hosts are in step, every move keeps them so, and an IDLE sender has every
acknowledgement. -/
theorem inOrderLinksDeliverEachPayloadOnceInOrder : Obligations.InOrderLinksDeliverEachPayloadOnceInOrder := by
  intro ca cb a b ms c ha hao hb hbo hboot hin hdet hrun
  obtain ⟨c0, s0, r0, h0, hrun⟩ := inStep_of_boots ha hao hb hbo hrun
  obtain ⟨sender, receiver, log, acked, h⟩ := h0.run hboot hin hdet hrun
  refine ⟨sender, receiver, h.nodes, h.exchange.delivered_prefix, fun hidle => ?_⟩
  have hall : (offered 0 ms).length = acked := h.exchange.length_eq_of_le (h.senderAt.idle hidle)
  have hdelivered := h.exchange.delivered_eq hall
  obtain ⟨hack, -⟩ := h.left.running.legal.host h.left.running.role
  refine ⟨hdelivered, ?_, ?_, ?_⟩
  · rw [h.senderAt.ackexpected, hall]
  · rw [← hack, h.senderAt.ackexpected, hall]
  · rw [h.frameexpected, hdelivered]

end Sys2Proof.Machine
end

section
/-! FAMILY 43_router.md. The router's four rules (R160 to R163), and the frame it keeps in its buffer (R162, 10_state.md
R41). -/
namespace Sys2Proof.Machine

/-! ### The router's rules -/

theorem execRData_busy {q : SeqBit} {p : Bytes} {s : State} (hf : s.bufFull = true) :
    execRData q p s = .next (drop .ignBusy s) := if_pos hf

theorem execRData_reack {q : SeqBit} {p : Bytes} {s : State} (hf : s.bufFull = false) (hq : q ≠ s.frameexpected)
    (hd : s.config.reackDuplicates = true) : execRData q p s = .next (reackedState s.config.routerUpLink q s) := by
  rw [execRData, if_neg (by simp [hf]), if_pos hq, if_pos hd]
  rfl

theorem execRData_drop {q : SeqBit} {p : Bytes} {s : State} (hf : s.bufFull = false) (hq : q ≠ s.frameexpected)
    (hd : s.config.reackDuplicates = false) : execRData q p s = .next (drop .ignSeq s) := by
  rw [execRData, if_neg (by simp [hf]), if_pos hq, if_neg (by simp [hd])]

theorem execRData_forward {q : SeqBit} {p : Bytes} {s : State} (hf : s.bufFull = false) (hq : q = s.frameexpected)
    (hp : p.length ≤ s.config.maxMsg) :
    execRData q p s = .next (forwardedState q p (frameBytes s.config .data q p) s) := by
  rw [execRData, if_neg (by simp [hf]), if_neg (not_not_intro hq), encodeFrame_data q hp]
  rfl

theorem execRAck_mismatch {q : SeqBit} {s : State} (hq : q ≠ s.ackexpected) :
    execRAck q s = .next (drop .ignAck s) := if_pos hq

theorem execRAck_match {q : SeqBit} {s : State} (hq : q = s.ackexpected) :
    execRAck q s = .next (releasedState s) := if_neg (not_not_intro hq)

theorem execRTimeout_empty {s : State} (hf : s.bufFull = false) : execRTimeout s = .refused .timeoutWhileEmpty :=
  if_pos hf

/-- The timer is restarted, so a timer that still runs is cancelled first (R162, 41_timer.md R121). -/
theorem execRTimeout_full {s : State} (hf : s.bufFull = true) (hbuf : s.bufferLegal) :
    execRTimeout s = .next (setStatus .ok (sendTimed s.config.routerDownLink
      (frameBytes s.config .data s.bufSeq s.bufData) s)) := by
  rw [execRTimeout, if_neg (by simp [hf]), routerFrame_legal hbuf, withUnit_ok]

/-- Settles O14: the four branches of R_DATA. -/
theorem routerDataForwardsOnlyIntoAnEmptyBuffer : Obligations.RouterDataForwardsOnlyIntoAnEmptyBuffer := by
  refine ⟨decode_of_op (op := .rData) (by decide),
    fun s q p => ⟨execRData_busy, execRData_reack, execRData_drop, fun hf hq hp => ?_⟩⟩
  change execRData q p s = _
  rw [execRData_forward hf hq hp, forwardedState, frameBytes_length, List.append_assoc _ [_] [_]]
  rfl

/-- Settles O16: the two branches of R_ACK. -/
theorem routerAckReleasesTheBufferOnAMatch : Obligations.RouterAckReleasesTheBufferOnAMatch :=
  ⟨decode_of_op (op := .rAck) (by decide), fun _ _ => ⟨execRAck_mismatch, execRAck_match⟩⟩

/-- Settles O17: the two branches of R_TIMEOUT. -/
theorem routerTimeoutRetransmitsTheBufferedFrame : Obligations.RouterTimeoutRetransmitsTheBufferedFrame := by
  refine ⟨decode_of_op (op := .rTimeout) (by decide), fun s => ⟨fun hf hbuf => ?_, execRTimeout_empty⟩⟩
  change execRTimeout s = _
  rw [execRTimeout_full hf hbuf, ← frameBytes_length s.config .data s.bufSeq s.bufData]
  rfl

/-- Settles O18: R_PAYLOAD is `raiseFault .role`, whose mask and code are the two constants. -/
theorem routerPayloadRaisesTheRoleFault : Obligations.RouterPayloadRaisesTheRoleFault :=
  ⟨decode_of_op (op := .rPayload) (by decide), fun _ _ => rfl⟩

/-! ### The buffered frame -/

/-- At a router with its buffer full no run-time event writes the buffer: a forward needs it empty, and H_SEND a host. -/
theorem Effect.buffer_kept {s t : State} {e : Event} (h : Effect s e t) (he : e.runTime = true)
    (hr : s.role = .router) (hf : s.bufFull = true) :
    t.bufSeq = s.bufSeq ∧ t.bufLen = s.bufLen ∧ t.bufData = s.bufData := by
  cases h with
  | boot => cases he
  | forwarded l b q p hb _ hv hempty => exact absurd (hf.symm.trans hempty) nofun
  | sent p hb ha => exact absurd (hr.symm.trans (admission_eq_none.mp ha).1) nofun
  | _ => exact ⟨rfl, rfl, rfl⟩

/-- What a router sends on an expiry is its buffered frame, on ROUTER_DOWN_LINK (R162). -/
theorem Effect.sends_routerFrame {s t : State} {g : Gen} {l : Link} {bytes : Bytes} (h : Effect s (.timer g) t)
    (hr : s.role = .router) (hs : s.actions = []) (hsend : .send l bytes ∈ t.actions) :
    l = s.config.routerDownLink ∧ routerFrame s = .ok bytes := by
  cases h with
  | hostTimeout g B hb hhost => exact absurd (hr.symm.trans hhost) nofun
  | routerTimeout g B hb _ ha hf hB =>
    obtain ⟨rfl, rfl⟩ : l = s.config.routerDownLink ∧ bytes = B := by simpa [hs] using hsend
    exact ⟨rfl, hB⟩
  | unbooted | stale => simp [hs] at hsend

/-- Only a forward fills the buffer, and it sends the frame of what it stores (R160). -/
theorem Effect.forwards_buffer {s t : State} {e : Event} (h : Effect s e t) (hempty : s.bufFull = false)
    (hfull : t.bufFull = true) :
    .send s.config.routerDownLink (frameBytes s.config .data t.bufSeq t.bufData) ∈ t.actions := by
  cases h with
  | boot | released => cases hfull
  | forwarded => simp
  | _ => exact absurd (hfull.symm.trans hempty) nofun

/-- Settles O51: `Effect.buffer_kept` and `Effect.sends_routerFrame` while the buffer is full, `Effect.forwards_buffer`
when it becomes so. -/
theorem theBufferedFrameIsConstantWhileFull : Obligations.TheBufferedFrameIsConstantWhileFull := by
  intro s t e hs ht he hr hfull
  obtain ⟨rest, -, h⟩ := ht.effect
  refine ⟨fun hf => ?_, fun hempty => h.forwards_buffer hempty hfull⟩
  obtain ⟨hseq, hlen, hdata⟩ := h.buffer_kept he hr hf
  refine ⟨hseq, hlen, hdata, ?_⟩
  rintro l bytes hsend ⟨g, rfl⟩
  obtain ⟨hlink, hframe⟩ := h.sends_routerFrame hr rfl hsend
  have hok : Except.ok (frameBytes s.config .data s.bufSeq s.bufData) = Except.ok bytes :=
    (routerFrame_legal hs.buffer).symm.trans hframe
  exact ⟨hlink, (Except.ok.inj hok).symm⟩

end Sys2Proof.Machine
end

section
/-! SUPPORT. From a state of the invariant every event ends in a next state. -/
namespace Sys2Proof.Machine

/-! ### Every event has an end -/

/-- A valid DATA frame is ignored at a full router, accepted with the expected bit, and else acknowledged again or
ignored. -/
theorem exists_effect_of_data {l : Link} {b : Bytes} {q : SeqBit} {p : Bytes} {s : State} (hb : s.booted = true)
    (hv : validateFrame s.config b = .valid .data q p) : ∃ t, Effect s (.frame l b) t := by
  by_cases hbusy : s.role = .router ∧ s.bufFull = true
  · exact ⟨_, .ignored l b _ q p .ignBusy hb hv (.inr (.inl ⟨rfl, rfl, hbusy⟩))⟩
  have hempty : s.role = .router → s.bufFull = false := by simpa using hbusy
  by_cases hq : q = s.frameexpected
  · cases hr : s.role with
    | host => exact ⟨_, .delivered l b q p hb hr hv hq⟩
    | router => exact ⟨_, .forwarded l b q p hb hr hv (hempty hr) hq⟩
  · cases hd : s.config.reackDuplicates with
    | true => exact ⟨_, .reack l b q p hb hv hd hq hempty⟩
    | false => exact ⟨_, .ignored l b _ q p .ignSeq hb hv (.inl ⟨rfl, rfl, hq, hd, hempty⟩)⟩

/-- A valid ACK is ignored at an IDLE host, accepted with the expected bit, and else ignored. -/
theorem exists_effect_of_ack {l : Link} {b : Bytes} {q : SeqBit} {p : Bytes} {s : State} (hb : s.booted = true)
    (hv : validateFrame s.config b = .valid .ack q p) : ∃ t, Effect s (.frame l b) t := by
  by_cases hidle : s.role = .host ∧ s.sndWait = false
  · exact ⟨_, .ignored l b _ q p .ignIdleAck hb hv (.inr (.inr (.inr ⟨rfl, rfl, hidle⟩)))⟩
  have hwait : s.role = .host → s.sndWait = true := by simpa using hidle
  by_cases hq : q = s.ackexpected
  · cases hr : s.role with
    | host => exact ⟨_, .acked l b q p hb hr hv (hwait hr) hq⟩
    | router => exact ⟨_, .released l b q p hb hr hv hq⟩
  · exact ⟨_, .ignored l b _ q p .ignAck hb hv (.inr (.inr (.inl ⟨rfl, rfl, hq, hwait⟩)))⟩

/-- While the timer of a legal node runs, a frame is outstanding (10_state.md R41). -/
theorem State.Legal.outstanding {s : State} (hs : s.Legal) (ha : s.tmrActive = true) : ∃ l q, Outstanding s l q := by
  cases hr : s.role with
  | host =>
    obtain ⟨-, hact, -⟩ := hs.host hr
    exact ⟨_, _, .host hr (hact.symm.trans ha)⟩
  | router =>
    obtain ⟨hfull, -⟩ := hs.router hr
    exact ⟨_, _, .router hr (hfull.trans ha)⟩

/-- An accepted expiry finds the frame it retransmits. -/
theorem exists_effect_of_timer {g : Gen} {s : State} (hs : s.Legal) (hb : s.booted = true) :
    ∃ t, Effect s (.timer g) t := by
  cases ha : expiryAccepted g s with
  | false => exact ⟨_, .stale g hb ha⟩
  | true =>
    obtain ⟨hact, rfl⟩ := expiryAccepted_eq_true.mp ha
    obtain ⟨l, q, hout⟩ := hs.outstanding hact
    exact ⟨_, hout.effect hs⟩

/-- From a state of the invariant every event ends in a next state (60_exceptions.md R205). -/
theorem State.Legal.exists_effect {s : State} (hs : s.Legal) (e : Event) : ∃ t, Effect s e t := by
  cases e with
  | boot cfg => exact ⟨_, .boot cfg⟩
  | frame l b =>
    cases hb : s.booted with
    | false => exact ⟨_, .unbooted _ rfl hb⟩
    | true =>
      cases hv : validateFrame s.config b with
      | discard c => exact ⟨_, .discard l b c hb hv⟩
      | valid k q p =>
        cases k with
        | data => exact exists_effect_of_data hb hv
        | ack => exact exists_effect_of_ack hb hv
  | timer g =>
    cases hb : s.booted with
    | false => exact ⟨_, .unbooted _ rfl hb⟩
    | true => exact exists_effect_of_timer hs hb
  | payload p =>
    cases hb : s.booted with
    | false => exact ⟨_, .unbooted _ rfl hb⟩
    | true =>
      cases ha : admission p s with
      | none => exact ⟨_, .sent p hb ha⟩
      | some f => exact ⟨_, .payloadFault p f hb ha⟩
  | diag =>
    cases hb : s.booted with
    | false => exact ⟨_, .unbooted _ rfl hb⟩
    | true => exact ⟨_, .diag hb⟩

/-- Delivering an event to a legal core ends in a next state. -/
theorem State.Legal.exists_react {s : State} (hs : s.Legal) (e : Event) : ∃ t, s.react e = .next t := by
  have hstart : ({ s with inbox := [e], keyPort := none } : State).takeEvent [] = s.takeEvent [] := by
    rw [← hs.noKey]
    rfl
  obtain ⟨t, ht⟩ := (hs.takeEvent []).exists_effect e
  exact ⟨t, (step_event rfl rfl).trans (hstart ▸ ht.dispatchEvent_eq)⟩

end Sys2Proof.Machine
end

section
/-! FAMILY 44_dispatcher.md. BOOT (R180), the dispatch of run-time events (R181 to R183), DIAG (R184, R185), and what
only BOOT writes (R187). -/
namespace Sys2Proof.Machine

/-! ### BOOT and DIAG -/

theorem originator_eq (cfg : BootCfg) : originator cfg = if cfg.role = .host then cfg.orig else false := by
  cases h : cfg.role <;> simp [originator, h]

theorem bootAnnouncement_eq (cfg : BootCfg) :
    bootAnnouncement cfg = if cfg.role = .host then [.intake cfg.orig] else [] := by
  cases h : cfg.role <;> simp [bootAnnouncement, h]

/-- Settles O3: `execBoot` with `originator`, `cancelActions` and `bootAnnouncement` written out. -/
theorem bootResetsEveryFieldButFault : Obligations.BootResetsEveryFieldButFault := by
  refine ⟨?_, fun cfg s => ?_, fun cfg s rest hk hi => ?_⟩
  · rintro o k (rfl | rfl)
    · exact decode_of_op (op := .boot) (by decide) o
    · exact decode_of_op (op := .boot) (by decide) o
  · change execBoot cfg s = _
    rw [execBoot, originator_eq, bootAnnouncement_eq]
    rfl
  · rw [step_event hk hi]
    exact runKey_bootWord cfg _

/-- R185's text. -/
theorem diagText_eq (s : State) : String.ofList (diagText s) =
    "ackexpected=" ++ (if s.ackexpected = 1#1 then "1" else "0") ++
    " nextframetosend=" ++ (if s.nextframetosend = 1#1 then "1" else "0") ++
    " frameexpected=" ++ (if s.frameexpected = 1#1 then "1" else "0") := by
  have digit : ∀ b : SeqBit, (if b = 1#1 then "1" else "0").toList = [bitChar b] := by
    intro b
    rcases seqBit_cases b with rfl | rfl <;> rfl
  simp [← String.toList_inj, digit, diagText]

/-- Settles O19: `execDiag` with `diagText_eq`. -/
theorem diagReturnsTheThreeBits : Obligations.DiagReturnsTheThreeBits := by
  refine ⟨?_, fun s => ⟨diagText s, rfl, diagText_eq s⟩⟩
  rintro o k (rfl | rfl)
  · exact decode_of_op (op := .diag) (by decide) o
  · exact decode_of_op (op := .diag) (by decide) o

/-! ### Admission -/

theorem admission_router {p : Bytes} {s : State} (hr : s.role = .router) : admission p s = some .role := if_pos hr

theorem admission_intakeOff {p : Bytes} {s : State} (hr : s.role = .host) (hi : s.intakeEn = false) :
    admission p s = some .intake := by
  simp [admission, hr, hi]

theorem admission_oversize {p : Bytes} {s : State} (hr : s.role = .host) (hi : s.intakeEn = true)
    (hp : s.config.maxMsg < p.length) : admission p s = some .oversize := by
  simp [admission, hr, hi, hp]

/-- Settles O6: the three faults of `admission`. -/
theorem keyedSendFaultsOutsideItsPrecondition : Obligations.KeyedSendFaultsOutsideItsPrecondition := fun _ _ =>
  ⟨fun hr => execHSend_fault (admission_router hr), fun hr hi => execHSend_fault (admission_intakeOff hr hi),
    fun hr hi hp => execHSend_fault (admission_oversize hr hi hp)⟩

/-! ### What only BOOT writes -/

theorem Effect.booted_kept {s t : State} {e : Event} (h : Effect s e t) (he : e.runTime = true) :
    t.booted = s.booted := by
  cases h with
  | boot => cases he
  | _ => rfl

theorem Effect.nodeId {s t : State} {e : Event} (h : Effect s e t) (he : e.runTime = true) : t.nodeId = s.nodeId := by
  cases h with
  | boot => cases he
  | _ => rfl

/-- Settles O42: one lemma for each field. -/
theorem onlyBootWritesTheConfiguration : Obligations.OnlyBootWritesTheConfiguration := by
  intro s t e ht he
  obtain ⟨rest, -, h⟩ := ht.effect
  exact ⟨h.booted_kept he, h.role he, h.orig he, h.nodeId he⟩

/-! ### The step that takes a run-time event -/

/-- The row of the operation map that the dispatcher's key for a valid frame selects (30_encoding.md R82). -/
def frameOp : Role → Kind → Op
  | .host,   .data => .hData
  | .host,   .ack  => .hAck
  | .router, .data => .rData
  | .router, .ack  => .rAck

/-- The row of the operation map that the dispatcher's key for an accepted expiry selects (30_encoding.md R82). -/
def timerOp : Role → Op
  | .host   => .hTimeout
  | .router => .rTimeout

theorem roleBit_eq (r : Role) : BitVec.ofBool (r = .router) = roleBit r := by cases r <;> rfl

theorem kindBit_eq (k : Kind) : BitVec.ofBool (k = .ack) = kindBit k := by cases k <;> rfl

theorem decode_frameWord (r : Role) (k : Kind) (q : SeqBit) (p : Bytes) :
    decode (frameWord r k q p) = .ok (instrOf (frameOp r k) { seq := q, bytes := p }) :=
  decode_of_op (by cases r <;> cases k <;> decide) _

theorem decode_timerWord (r : Role) : decode (timerWord r) = .ok (instrOf (timerOp r) {}) :=
  decode_of_op (by cases r <;> decide) _

section
variable {s : State} {rest : List Event} (hk : s.keyPort = none)
include hk

theorem step_unbooted {e : Event} (hb : s.booted = false) (he : e.runTime = true) (hi : s.inbox = e :: rest) :
    step s = .next (raiseFault .notBooted (s.takeEvent rest)) := by
  rw [step_event hk hi]
  exact (Effect.unbooted (s := s.takeEvent rest) e he hb).dispatchEvent_eq

variable (hb : s.booted = true)
include hb

theorem step_frame {l : Link} {b : Bytes} {k : Kind} {q : SeqBit} {p : Bytes} (hi : s.inbox = .frame l b :: rest)
    (hv : validateFrame s.config b = .valid k q p) :
    step s = exec (instrOf (frameOp s.role k) { seq := q, bytes := p }) (s.takeEvent rest) := by
  rw [step_event hk hi, dispatchEvent_valid (s := s.takeEvent rest) hb hv]
  exact runKey_of_decode_ok (decode_frameWord ..) _

theorem step_expiry {g : Gen} (hi : s.inbox = .timer g :: rest) (ha : expiryAccepted g s = true) :
    step s = exec (instrOf (timerOp s.role) {}) (timerFired (s.takeEvent rest)) := by
  rw [step_event hk hi, dispatchEvent_timer (s := s.takeEvent rest) hb,
    dispatchTimer_accepted (s := s.takeEvent rest) ha]
  exact runKey_of_decode_ok (decode_timerWord _) _

theorem step_staleExpiry {g : Gen} (hi : s.inbox = .timer g :: rest) (ha : expiryAccepted g s = false) :
    step s = .next (drop .ignStaleTimer (s.takeEvent rest)) := by
  rw [step_event hk hi]
  exact (Effect.stale (s := s.takeEvent rest) g hb ha).dispatchEvent_eq

/-- A payload runs H_SEND, whose own checks are those of the dispatcher; at a router that is R_PAYLOAD's fault. -/
theorem step_payload {p : Bytes} (hi : s.inbox = .payload p :: rest) : step s = execHSend p (s.takeEvent rest) := by
  rw [step_event hk hi, dispatchEvent_payload (s := s.takeEvent rest) hb, dispatchPayload_eq]
  cases ha : admission p (s.takeEvent rest) with
  | none => rfl
  | some f => exact (execHSend_fault ha).symm

theorem step_diag (hi : s.inbox = .diag :: rest) : step s = execDiag (s.takeEvent rest) := by
  rw [step_event hk hi]
  exact (Effect.diag (s := s.takeEvent rest) hb).dispatchEvent_eq

end

/-- Settles O5: `step_payload`, with the faults of `admission` and the state that an admitted H_SEND leaves. -/
theorem payloadAdmissionChecksInOrder : Obligations.PayloadAdmissionChecksInOrder := by
  intro s p rest hk hb hi
  rw [step_payload hk hb hi]
  refine ⟨fun hr => ?_, fun hr hoff => ?_, fun hr hon hp => ?_, fun hr hon hp => ⟨rfl, ?_⟩⟩
  · exact execHSend_fault (s := s.takeEvent rest) (admission_router hr)
  · exact execHSend_fault (s := s.takeEvent rest) (admission_intakeOff hr hoff)
  · exact execHSend_fault (s := s.takeEvent rest) (admission_oversize hr hon hp)
  · exact ⟨_, execHSend_admitted (admission_eq_none.mpr ⟨hr, hon, hp⟩), rfl, rfl⟩

/-- Settles O4: one lemma for each event. -/
theorem runTimeEventsRunTheirOperation : Obligations.RunTimeEventsRunTheirOperation := by
  intro s rest hk
  refine ⟨fun hb e he hi => step_unbooted hk hb he hi, fun hb => ⟨?_, ?_, ?_, ?_, ?_, ?_, step_diag hk hb⟩⟩
  · intro l b c hi hv
    rw [step_discard hk hi hb hv]
    cases c <;> rfl
  · intro l b k q p hi hv op
    have hop : op = instrOf (frameOp s.role k) { seq := q, bytes := p } := by
      cases hr : s.role <;> cases k <;> simp only [op, hr] <;> rfl
    rw [hop, roleBit_eq, kindBit_eq]
    exact ⟨decode_frameWord .., step_frame hk hb hi hv⟩
  · intro g hi ha hg op
    have hop : op = instrOf (timerOp s.role) {} := by
      cases hr : s.role <;> simp only [op, hr] <;> rfl
    rw [hop, roleBit_eq]
    exact ⟨decode_timerWord _, step_expiry hk hb hi (expiryAccepted_eq_true.mpr ⟨ha, hg⟩)⟩
  · intro g hi h
    refine step_staleExpiry hk hb hi (Bool.eq_false_iff.mpr fun hacc => ?_)
    obtain ⟨ha, hg⟩ := expiryAccepted_eq_true.mp hacc
    exact h.elim (fun hidle => absurd (ha.symm.trans hidle) nofun) (· hg)
  · intro p hi hr
    refine ⟨decode_of_op (op := .rPayload) (by decide) _, ?_⟩
    exact (step_payload hk hb hi).trans (execHSend_fault (s := s.takeEvent rest) (admission_router hr))
  · intro p hi hr hon hp
    exact ⟨decode_of_op (op := .hSend) (by decide) _, step_payload hk hb hi⟩

/-! ### The link of a frame -/

/-- A host sends on HOST_LINK; a router an ACK on ROUTER_UP_LINK or a DATA frame on ROUTER_DOWN_LINK (R182). -/
inductive SentOn (s : State) : Link → Bytes → Prop where
  | host (hr : s.role = .host) (b : Bytes) : SentOn s s.config.hostLink b
  | up (hr : s.role = .router) (q : SeqBit) : SentOn s s.config.routerUpLink (ackFrame s.config q)
  | down (hr : s.role = .router) (q : SeqBit) (p : Bytes) :
      SentOn s s.config.routerDownLink (frameBytes s.config .data q p)

theorem sentOn_ackLink (s : State) (q : SeqBit) : SentOn s (ackLink s) (ackFrame s.config q) := by
  cases hr : s.role with
  | host => rw [ackLink_host hr]; exact .host hr _
  | router => rw [ackLink_router hr]; exact .up hr q

theorem send_not_mem_cancelActions (l : Link) (b : Bytes) (s : State) : .send l b ∉ cancelActions s := by
  unfold cancelActions
  split <;> simp

theorem Effect.sentOn {s t : State} {e : Event} {l : Link} {b : Bytes} (h : Effect s e t) (he : e.runTime = true)
    (hs : s.actions = []) (hsend : .send l b ∈ t.actions) : SentOn s l b := by
  have hcancel := send_not_mem_cancelActions l b s
  cases h with
  | boot => cases he
  | reack l' b' q =>
    obtain ⟨rfl, rfl⟩ : l = ackLink s ∧ b = ackFrame s.config q := by simpa [hs] using hsend
    exact sentOn_ackLink s q
  | delivered l' b' q p hb hr =>
    obtain ⟨rfl, -⟩ : l = s.config.hostLink ∧ b = ackFrame s.config q := by simpa [hs] using hsend
    exact .host hr b
  | sent p hb ha =>
    obtain ⟨rfl, -⟩ : l = s.config.hostLink ∧ _ := by simpa [hs, hcancel] using hsend
    exact .host (admission_eq_none.mp ha).1 b
  | hostTimeout g B hb hr =>
    obtain ⟨rfl, -⟩ : l = s.config.hostLink ∧ b = B := by simpa [hs] using hsend
    exact .host hr b
  | forwarded l' b' q p hb hr =>
    rcases (by simpa [hs, hcancel] using hsend : (l = s.config.routerUpLink ∧ b = ackFrame s.config q) ∨
      (l = s.config.routerDownLink ∧ b = frameBytes s.config .data q p)) with ⟨rfl, rfl⟩ | ⟨rfl, rfl⟩
    · exact .up hr q
    · exact .down hr q p
  | routerTimeout g B hb hr ha hf hB =>
    obtain ⟨rfl, rfl⟩ : l = s.config.routerDownLink ∧ b = B := by simpa [hs] using hsend
    rw [routerFrame_ok hB]
    exact .down hr _ _
  | _ => simp [hs, hcancel] at hsend

/-- Settles O7: the dispatcher passes over the arrival link, and every send is one of `SentOn`. -/
theorem linksAreFixedByRoleAndKind : Obligations.LinksAreFixedByRoleAndKind := by
  refine ⟨fun s l l' b rest hk => ?_, fun s t e l b ht he hsend => ?_,
    fun c hc => ⟨hc.hostLink, hc.routerUpLink, hc.routerDownLink⟩⟩
  · exact (step_event (e := .frame l b) (s := { s with inbox := .frame l b :: rest }) hk rfl).trans
      (step_event (e := .frame l' b) (s := { s with inbox := .frame l' b :: rest }) hk rfl).symm
  · obtain ⟨rest, -, h⟩ := ht.effect
    cases h.sentOn he rfl hsend with
    | host hr => exact ⟨fun _ => rfl, fun hr' => absurd (hr.symm.trans hr') nofun⟩
    | up hr q => exact ⟨fun hr' => absurd (hr.symm.trans hr') nofun, fun _ => .inl ⟨rfl, q, rfl⟩⟩
    | down hr q p => exact ⟨fun hr' => absurd (hr.symm.trans hr') nofun, fun _ => .inr ⟨rfl, q, p, rfl⟩⟩

end Sys2Proof.Machine
end

section
/-! FAMILY 44_dispatcher.md, over a chain. An environment that keeps its duties (R190): what each of its moves leaves
legal, the moves there always are, and the end of a run (R191). -/
namespace Sys2Proof.Machine

/-! ### The deployment -/

theorem placesFit_iff {ds : List (Option BootCfg)} :
    placesFit ds = true ↔ ∀ i cfg, ds[i]? = some (some cfg) → cfg.role = placeRole ds.length i := by
  simp only [placesFit, List.all_eq_true, List.mem_zipIdx_iff_getElem?, Option.all_eq_true, Prod.forall, beq_iff_eq]
  exact ⟨fun h i cfg hi => h _ i hi cfg rfl, fun h d i hi cfg hd => h i cfg (hd ▸ hi)⟩

theorem placesFit_of_admits {ds : List (Option BootCfg)} (h : deploymentAdmits ds = true) : placesFit ds = true := by
  simp only [deploymentAdmits, Bool.and_eq_true] at h
  obtain ⟨⟨⟨-, hfit⟩, -⟩, -⟩ := h
  exact hfit

theorem deployment_set {c c' : Chain} {i : Nat} {d' : Node} (hn : c'.nodes = c.nodes.set i d') :
    c'.deployment = c.deployment.set i d'.deployed := by
  rw [Chain.deployment, hn, List.map_set]
  rfl

theorem nodes_set_self {c : Chain} {i : Nat} {d : Node} (hi : c.nodes[i]? = some d) (d' : Node) :
    (c.nodes.set i d')[i]? = some d' := List.getElem?_set_self (List.getElem?_eq_some_iff.mp hi).1

/-- A node that is not booted again leaves the deployment as it is. -/
theorem deployment_kept {c c' : Chain} {i : Nat} {d d' : Node} (hi : c.nodes[i]? = some d)
    (hd : d'.deployed = d.deployed) (hn : c'.nodes = c.nodes.set i d') : c'.deployment = c.deployment := by
  obtain ⟨hlt, hdep⟩ : ∃ h : i < c.deployment.length, c.deployment[i] = d.deployed :=
    List.getElem?_eq_some_iff.mp (by simp [Chain.deployment, hi])
  rw [deployment_set hn, hd, ← hdep, List.set_getElem_self]

theorem ready_congr {c c' : Chain} (h : c'.deployment = c.deployment) : c'.ready = c.ready := by
  rw [Chain.ready, Chain.ready, h]

/-- In a chain that is ready every node is booted. -/
theorem Chain.Legal.booted {c : Chain} {i : Nat} {d : Node} (hc : c.Legal) (hr : c.ready = true)
    (hi : c.nodes[i]? = some d) : d.core.booted = true := by
  have hd := List.mem_of_getElem? hi
  simp only [Chain.ready, Bool.and_eq_true, List.all_eq_true] at hr
  obtain ⟨hall, -⟩ := hr
  obtain ⟨hboot, -⟩ := (hc.nodes d hd).boot
  exact hboot.trans (hall _ (List.mem_map_of_mem hd))

/-- A chain with one node replaced by a legal one is legal where the places fit. -/
theorem Chain.Legal.set {c c' : Chain} {i : Nat} {d' : Node} (hc : c.Legal) (hn : c'.nodes = c.nodes.set i d')
    (hd : d'.Legal) (hp : placesFit c'.deployment = true) : c'.Legal where
  nodes := by
    intro x hx
    rw [hn] at hx
    rcases List.mem_or_eq_of_mem_set hx with hx | rfl
    · exact hc.nodes x hx
    · exact hd
  places := hp

/-! ### One event at one node -/

/-- The node after its core's transition to `t`, its facility left with the expiries `xs`, and the actions performed. -/
def Node.reacted (t : State) (xs : List Expiry) (d : Node) : Node :=
  ({ d with core := t, expiries := xs } : Node).performAll t.actions

@[simp] theorem reacted_core (t : State) (xs : List Expiry) (d : Node) : (d.reacted t xs).core = t :=
  performAll_core _ _

@[simp] theorem reacted_deployed (t : State) (xs : List Expiry) (d : Node) :
    (d.reacted t xs).deployed = d.deployed := performAll_deployed _ _

/-- The environment delivers the run-time event `e` to a node and keeps its duties: a payload is one that the node
admits, and of its expiries the facility keeps `xs`, all but the one it delivers (44_dispatcher.md R190). -/
structure Dutiful (d : Node) (e : Event) (xs : List Expiry) : Prop where
  runTime  : e.runTime = true
  admitted : ∀ p, e = .payload p → admission p d.core = none
  held     : ∀ x ∈ xs, x ∈ d.expiries
  kept     : ∀ x ∈ d.expiries, x ∈ xs ∨ e = .timer x.gen

/-- A payload that is offered while intake is on, of at most MAX_MSG bytes, is admitted: a router's intake is off. -/
theorem Node.Legal.admits {d : Node} {p : Bytes} (hd : d.Legal) (hon : d.intakeOn = true)
    (hp : p.length ≤ d.core.config.maxMsg) : admission p d.core = none := by
  have hi : d.core.intakeEn = true := hd.intake.symm.trans hon
  cases hr : d.core.role with
  | host => exact admission_eq_none.mpr ⟨hr, hi, hp⟩
  | router =>
    obtain ⟨-, -, -, hoff, -⟩ := hd.inv.router hr
    exact absurd (hoff.symm.trans hi) nofun

/-- A booted node that is offered only what it admits records no fault (60_exceptions.md R204). -/
theorem Effect.fault_kept {s t : State} {e : Event} (h : Effect s e t) (hb : s.booted = true)
    (hp : ∀ p, e = .payload p → admission p s = none) : t.fault = s.fault := by
  cases h with
  | unbooted _ _ hun => exact absurd (hb.symm.trans hun) nofun
  | payloadFault p f _ ha => exact absurd ((hp p rfl).symm.trans ha) nofun
  | _ => rfl

/-! ### The facility -/

/-- Every expiry of `xs` is one of `ys`, cancelled since or not. -/
def sameStarts (xs ys : List Expiry) : Prop := ∀ x ∈ xs, ∃ y ∈ ys, x.gen = y.gen ∧ x.startNo = y.startNo

theorem sameStarts_refl (xs : List Expiry) : sameStarts xs xs := fun x hx => ⟨x, hx, rfl, rfl⟩

theorem sameStarts_cancelActions (s : State) (d : Node) :
    sameStarts (d.performAll (cancelActions s)).expiries d.expiries := fun _ => mem_performAll_cancelActions

/-- The node `d` after the actions of the transition from `s` to `t`, in its facility: as before, with the timer
stopped, or with one more started (41_timer.md R121 to R123). -/
inductive FacilityStep (s : State) (e : Event) (t : State) (d d' : Node) : Prop where
  | kept (hact : t.tmrActive = s.tmrActive) (hgen : t.tmrGen = s.tmrGen) (hx : d'.expiries = d.expiries)
      (hn : d'.starts = d.starts) (hstale : ∀ g, e = .timer g → expiryAccepted g s = false)
  | stopped (hact : t.tmrActive = false) (hgen : t.tmrGen = s.tmrGen) (hx : sameStarts d'.expiries d.expiries)
      (hn : d'.starts = d.starts)
  | started (xs : List Expiry) (hgen : t.tmrGen = nextGen s.config s.tmrGen) (hxs : sameStarts xs d.expiries)
      (hx : d'.expiries = xs ++ [{ gen := nextGen s.config s.tmrGen, startNo := d.starts, cancelled := false }])
      (hn : d'.starts = d.starts + 1)

theorem Effect.facilityStep {s t : State} {e : Event} (h : Effect s e t) (he : e.runTime = true)
    (hb : s.booted = true) (hs : s.actions = []) (d : Node) : FacilityStep s e t d (d.performAll t.actions) := by
  cases h with
  | boot => cases he
  | unbooted _ _ hun => exact absurd (hb.symm.trans hun) nofun
  | acked | released =>
    exact .stopped rfl rfl (by simpa [hs] using sameStarts_cancelActions s d) (by simp [hs])
  | sent | forwarded => exact .started _ rfl (sameStarts_cancelActions s d) (by simp [hs]) (by simp [hs])
  | hostTimeout | routerTimeout => exact .started _ rfl (sameStarts_refl _) (by simp [hs]) (by simp [hs])
  | stale g _ ha => exact .kept rfl rfl (by simp [hs]) (by simp [hs]) fun g' hg => by cases hg; exact ha
  | _ => exact .kept rfl rfl (by simp [hs]) (by simp [hs]) nofun

/-- Each expiry carries the tag of one of the first `n` timers started. -/
def tagged (cf : Config) (n : Nat) (xs : List Expiry) : Prop :=
  ∀ x ∈ xs, x.gen = tagOf cf (x.startNo + 1) ∧ x.startNo < n

theorem sameStarts.tagged {cf : Config} {n : Nat} {xs ys : List Expiry} (h : sameStarts xs ys)
    (hys : tagged cf n ys) : tagged cf n xs := by
  intro x hx
  obtain ⟨y, hy, hgen, hno⟩ := h x hx
  rw [hgen, hno]
  exact hys y hy

/-- One more timer is started, with the next tag. -/
theorem tagged.concat {cf : Config} {n : Nat} {xs : List Expiry} (h : tagged cf n xs) (c : Bool) :
    tagged cf (n + 1) (xs ++ [{ gen := tagOf cf (n + 1), startNo := n, cancelled := c }]) := by
  intro x hx
  rcases List.mem_append.mp hx with hx | hx
  · obtain ⟨hgen, hlt⟩ := h x hx
    exact ⟨hgen, Nat.lt_succ_of_lt hlt⟩
  · obtain rfl := List.mem_singleton.mp hx
    exact ⟨rfl, Nat.lt_succ_self n⟩

/-- The facility agrees with the core after the event: the expiry that is delivered is that of the running timer only if
the core accepts it. -/
theorem Node.tagsLegal.reacted {d : Node} {e : Event} {t : State} {xs : List Expiry} (h : d.tagsLegal)
    (hd : Dutiful d e xs) (hc : t.config = d.core.config)
    (hstep : FacilityStep (d.core.takeEvent []) e t { d with core := t, expiries := xs } (d.reacted t xs)) :
    (d.reacted t xs).tagsLegal := by
  obtain ⟨hgen, hheld, hdue⟩ := h
  have hxs : tagged d.core.config d.starts xs := fun x hx => hheld x (hd.held x hx)
  unfold Node.tagsLegal
  rw [reacted_core, hc]
  cases hstep with
  | kept hact hg hx hn hstale =>
    rw [hx, hn, hact, hg]
    refine ⟨hgen, hxs, fun ha => ?_⟩
    obtain ⟨x, hx, hno, hlive⟩ := hdue ha
    rcases hd.kept x hx with hx | rfl
    · exact ⟨x, hx, hno, hlive⟩
    · have hcur : x.gen = d.core.tmrGen := by rw [(hheld x hx).1, hno, hgen]
      exact absurd ((hstale _ rfl).symm.trans (expiryAccepted_eq_true.mpr ⟨ha, hcur⟩)) nofun
  | stopped hact hg hx hn =>
    rw [hn, hact, hg]
    exact ⟨hgen, hx.tagged hxs, nofun⟩
  | started ys hg hys hx hn =>
    have hnext : nextGen d.core.config d.core.tmrGen = tagOf d.core.config (d.starts + 1) := by
      rw [hgen, nextGen_tagOf]
    rw [hx, hn, hg, takeEvent_config, takeEvent_tmrGen, hnext]
    exact ⟨rfl, (hys.tagged hxs).concat false, fun _ => ⟨_, List.mem_concat_self, rfl, rfl⟩⟩

/-! ### What a run-time event and a BOOT leave legal -/

/-- A legal node that is booted stays legal over every event its environment may deliver. -/
theorem Node.Legal.reacted {d : Node} {e : Event} {t : State} {xs : List Expiry} (hd : d.Legal)
    (hb : d.core.booted = true) (he : Dutiful d e xs) (ht : d.core.react e = .next t) : (d.reacted t xs).Legal := by
  have h := hd.inv.react_effect ht
  obtain ⟨hboot, hcfg⟩ := hd.boot
  constructor
  case inv => simpa using h.legal (hd.inv.takeEvent [])
  case fault =>
    rw [reacted_core]
    exact (h.fault_kept hb he.admitted).trans hd.fault
  case boot =>
    unfold Node.bootLegal
    rw [reacted_core, reacted_deployed, h.booted hb, h.role he.runTime, h.orig he.runTime, h.nodeId he.runTime]
    exact ⟨hb.symm.trans hboot, hcfg⟩
  case intake =>
    rw [reacted_core]
    exact h.intakeOn he.runTime rfl hd.intake
  case tags => exact hd.tags.reacted he h.config (h.facilityStep he.runTime hb rfl _)

/-- The node before its next BOOT: the facility is empty and counts anew (44_dispatcher.md R190). -/
def Node.rebooting (cfg : BootCfg) (d : Node) : Node := { d with deployed := some cfg, expiries := [], starts := 0 }

/-- Before it is booted as a router a legal node has no intake: it is booted for the first time, or was a router. -/
theorem Node.Legal.noIntake {d : Node} (hd : d.Legal) (hr : ∀ cfg, d.deployed = some cfg → cfg.role = .router) :
    d.intakeOn = false := by
  obtain ⟨hboot, hcfg⟩ := hd.boot
  rw [hd.intake]
  cases hdep : d.deployed with
  | none =>
    rw [hdep] at hboot
    obtain ⟨-, -, -, -, -, -, -, hoff, -⟩ := hd.inv.unbooted hboot
    exact hoff
  | some cfg =>
    obtain ⟨hrole, -⟩ := hcfg cfg hdep
    obtain ⟨-, -, -, hoff, -⟩ := hd.inv.router (hrole.trans (hr cfg hdep))
    exact hoff

/-- BOOT's announcement is for the application alone. -/
theorem performAll_bootAnnouncement (cfg : BootCfg) (d : Node) :
    d.performAll (bootAnnouncement cfg) =
      { d with intakeOn := if cfg.role = .host then cfg.orig else d.intakeOn } := by
  rw [bootAnnouncement_eq]
  split <;> rfl

/-- A BOOT that leaves the role as it was leaves a legal node legal. -/
theorem Node.Legal.rebooted {d : Node} {cfg : BootCfg} {t : State} (hd : d.Legal)
    (hrole : ∀ cfg', d.deployed = some cfg' → cfg'.role = cfg.role) (ht : d.core.react (.boot cfg) = .next t) :
    ((d.rebooting cfg).reacted t []).Legal := by
  obtain rfl := (hd.inv.react_effect ht).unique (.boot cfg)
  constructor
  case inv => simpa using (Effect.boot cfg).legal (hd.inv.takeEvent [])
  case fault =>
    rw [reacted_core]
    exact hd.fault
  case boot =>
    unfold Node.bootLegal
    rw [reacted_core, reacted_deployed]
    exact ⟨rfl, fun cfg' h => by cases h; exact ⟨rfl, rfl, rfl⟩⟩
  case intake =>
    rw [reacted_core, Node.reacted, bootState_actions, performAll_append, performAll_bootAnnouncement]
    cases hr : cfg.role with
    | host => simp [originator, hr]
    | router =>
      rw [hr] at hrole
      simp [originator, hr, Node.rebooting, hd.noIntake hrole]
  case tags =>
    unfold Node.tagsLegal
    rw [reacted_core, Node.reacted, bootState_actions, performAll_append, performAll_bootAnnouncement]
    refine ⟨?_, ?_, nofun⟩
    · simp [Node.rebooting]
    · exact (sameStarts_cancelActions (d.core.takeEvent []) _).tagged nofun

/-! ### Every move leaves a legal chain -/

/-- An event that is no expiry and that the node admits breaks no duty. -/
theorem dutiful_of_noTimer {d : Node} {e : Event} (he : e.runTime = true)
    (hp : ∀ p, e = .payload p → admission p d.core = none) : Dutiful d e d.expiries :=
  ⟨he, hp, fun _ => id, fun _ => .inl⟩

/-- The facility lets go of the expiry it delivers. -/
theorem dutiful_expiry {d : Node} {k : Nat} {x : Expiry} (hx : d.expiries[k]? = some x) :
    Dutiful d (.timer x.gen) (d.expiries.eraseIdx k) where
  runTime  := rfl
  admitted := nofun
  held _ h := List.mem_of_mem_eraseIdx h
  kept y hy := by
    obtain ⟨j, hj⟩ := List.mem_iff_getElem?.mp hy
    by_cases hjk : j = k
    · subst hjk
      obtain rfl := Option.some.inj (hx.symm.trans hj)
      exact .inr rfl
    · exact .inl (List.mem_eraseIdx_iff_getElem?.mpr ⟨j, hjk, hj⟩)

/-- A run-time event that breaks no duty leaves a chain that is ready legal. -/
theorem Chain.Legal.reacted {c c' : Chain} {i : Nat} {e : Event} {d : Node} {t : State} {xs : List Expiry}
    (hc : c.Legal) (hr : c.ready = true) (hi : c.nodes[i]? = some d) (he : Dutiful d e xs)
    (ht : d.core.react e = .next t) (hn : c'.nodes = c.nodes.set i (d.reacted t xs)) : c'.Legal := by
  refine hc.set hn ((hc.nodes d (List.mem_of_getElem? hi)).reacted (hc.booted hr hi) he ht) ?_
  rw [deployment_kept hi (reacted_deployed t xs d) hn]
  exact hc.places

theorem Chain.Legal.deliverReady {c c' : Chain} {i : Nat} {e : Event} (hc : c.Legal)
    (h : c.deliverReady i e = some c') (he : e.runTime = true)
    (hp : ∀ d, c.nodes[i]? = some d → ∀ p, e = .payload p → admission p d.core = none) : c'.Legal := by
  obtain ⟨hr, h⟩ := deliverReady_eq_some h
  obtain ⟨d, t, hi, ht, hn, -⟩ := deliver_nodes h
  exact hc.reacted hr hi (dutiful_of_noTimer he (hp d hi)) ht hn

/-- The chain while the facility of node `i` hands over an expiry. -/
def Chain.holding (i : Nat) (d : Node) (xs : List Expiry) (c : Chain) : Chain :=
  { c with nodes := c.nodes.set i { d with expiries := xs } }

theorem holding_ready {c : Chain} {i : Nat} {d : Node} (hi : c.nodes[i]? = some d) (xs : List Expiry) :
    (c.holding i d xs).ready = c.ready :=
  ready_congr (deployment_kept hi (d' := { d with expiries := xs }) rfl rfl)

theorem Chain.Legal.expire {c c' : Chain} {i k : Nat} (hc : c.Legal) (h : c.expire i k = some c') : c'.Legal := by
  unfold Chain.expire at h
  split at h
  · cases h
  next d hi =>
  split at h
  · cases h
  next x hx =>
  split at h
  case isFalse => cases h
  obtain ⟨hr, h⟩ := deliverReady_eq_some h
  obtain ⟨d', t, hi', ht, hn, -⟩ := deliver_nodes h
  obtain rfl : { d with expiries := d.expiries.eraseIdx k } = d' :=
    Option.some.inj ((nodes_set_self hi _).symm.trans hi')
  refine hc.reacted ((holding_ready hi _).symm.trans hr) hi (dutiful_expiry hx) ht ?_
  rw [hn, List.set_set]
  rfl

theorem Chain.Legal.offer {c c' : Chain} {i : Nat} {p : Bytes} (hc : c.Legal) (h : c.offer i p = some c') :
    c'.Legal := by
  unfold Chain.offer at h
  split at h
  · cases h
  next d hi =>
  split at h
  case isFalse => cases h
  next hoffer =>
  obtain ⟨hon, hp⟩ : d.intakeOn = true ∧ p.length ≤ d.core.config.maxMsg := by simpa [payloadFits] using hoffer
  refine hc.deliverReady h rfl fun d' hi' p' hp' => ?_
  cases hp'
  obtain rfl := Option.some.inj (hi.symm.trans hi')
  exact (hc.nodes d (List.mem_of_getElem? hi)).admits hon hp

/-- A place has one role, so a node is booted with the role it had. -/
theorem Chain.Legal.role_kept {c : Chain} {i : Nat} {d : Node} {cfg : BootCfg} (hc : c.Legal)
    (hi : c.nodes[i]? = some d) (hp : placesFit (c.deployment.set i (some cfg)) = true) :
    ∀ cfg', d.deployed = some cfg' → cfg'.role = cfg.role := by
  intro cfg' hd
  obtain ⟨hlt, -⟩ := List.getElem?_eq_some_iff.mp hi
  have hold : cfg'.role = placeRole c.deployment.length i :=
    placesFit_iff.mp hc.places i cfg' (by simp [Chain.deployment, hi, hd])
  have hnew := placesFit_iff.mp hp i cfg (by simp [Chain.deployment, hlt])
  rw [List.length_set] at hnew
  exact hold.trans hnew.symm

theorem Chain.Legal.bootNode {c c' : Chain} {i : Nat} {cfg : BootCfg} (hc : c.Legal)
    (h : c.bootNode i cfg = some c') : c'.Legal := by
  unfold Chain.bootNode at h
  split at h
  · cases h
  next d hi =>
  split at h
  case isFalse => cases h
  next hadm =>
  obtain ⟨d', t, hi', ht, hn, -⟩ := deliver_nodes h
  obtain rfl : d.rebooting cfg = d' := Option.some.inj ((nodes_set_self hi _).symm.trans hi')
  have hfit := placesFit_of_admits hadm
  rw [List.set_set] at hn
  refine hc.set hn ((hc.nodes d (List.mem_of_getElem? hi)).rebooted (hc.role_kept hi hfit) ht) ?_
  rw [deployment_set hn, performAll_deployed]
  exact hfit

/-- Settles O55: a BOOT fits the place, and a run-time event comes to a booted node, is admitted, and takes the
expiry of the running timer only to have it accepted. -/
theorem dutifulEnvironmentsNeverCauseAFault : Obligations.DutifulEnvironmentsNeverCauseAFault := by
  intro c c' m hc h
  cases m with
  | boot i cfg => exact hc.bootNode h
  | frame k | corrupted k b =>
    obtain ⟨f, -, h⟩ := Option.bind_eq_some_iff.mp h
    exact hc.deliverReady h rfl fun _ _ _ => nofun
  | expiry i k => exact hc.expire h
  | payload i p => exact hc.offer h
  | diag i => exact hc.deliverReady h rfl fun _ _ _ => nofun

/-! ### The moves there always are -/

theorem deliverReady_isSome {c : Chain} {i : Nat} {d : Node} (hr : c.ready = true) (hi : c.nodes[i]? = some d)
    (hd : d.core.Legal) (e : Event) : (c.deliverReady i e).isSome = true := by
  obtain ⟨t, ht⟩ := hd.exists_react e
  rw [Chain.deliverReady, if_pos hr]
  exact deliver_isSome hi ht

theorem bootNode_isSome {c : Chain} {i : Nat} {d : Node} {cfg : BootCfg} (hi : c.nodes[i]? = some d)
    (hd : d.core.Legal) (h : deploymentAdmits (c.deployment.set i (some cfg)) = true) :
    (c.bootNode i cfg).isSome = true := by
  obtain ⟨t, ht⟩ := hd.exists_react (.boot cfg)
  simp only [Chain.bootNode, hi, if_pos h]
  exact deliver_isSome (d := d.rebooting cfg) (nodes_set_self hi _) ht

theorem expire_isSome {c : Chain} {i k : Nat} {d : Node} {x : Expiry} (hr : c.ready = true)
    (hi : c.nodes[i]? = some d) (hd : d.core.Legal) (hx : d.expiries[k]? = some x)
    (hheld : d.starts - x.startNo ≤ 2 ^ d.core.config.genW) : (c.expire i k).isSome = true := by
  have hmay : d.mayDeliver x = true := decide_eq_true hheld
  simp only [Chain.expire, hi, hx, if_pos hmay]
  exact deliverReady_isSome (c := c.holding i d (d.expiries.eraseIdx k)) ((holding_ready hi _).trans hr)
    (nodes_set_self hi _) hd _

theorem offer_isSome {c : Chain} {i : Nat} {d : Node} {p : Bytes} (hr : c.ready = true) (hi : c.nodes[i]? = some d)
    (hd : d.core.Legal) (hon : d.intakeOn = true) (hp : p.length ≤ d.core.config.maxMsg) :
    (c.offer i p).isSome = true := by
  have hoffer : (d.intakeOn && payloadFits d.core.config.maxMsg p) = true := by simp [hon, payloadFits, hp]
  simp only [Chain.offer, hi, if_pos hoffer]
  exact deliverReady_isSome hr hi hd _

/-- A frame that is on the wire can be delivered, with whatever bytes. -/
theorem wire_deliverReady_isSome {c : Chain} {k : Nat} {f : Transit} {d : Node} (hr : c.ready = true)
    (hi : c.nodes[f.dst]? = some d) (hd : d.core.Legal) (hf : c.wire[k]? = some f) (e : Transit → Event) :
    (c.wire[k]?.bind fun f => c.deliverReady f.dst (e f)).isSome = true := by
  rw [hf]
  exact deliverReady_isSome hr hi hd (e f)

/-- Settles O60: a legal core answers every event, so each move that the duties leave has its transition. -/
theorem theEnvironmentsLibertiesAreAdmitted : Obligations.TheEnvironmentsLibertiesAreAdmitted := by
  intro c i d hc hi
  have hd : d.core.Legal := (hc.nodes d (List.mem_of_getElem? hi)).inv
  refine ⟨fun cfg h => bootNode_isSome hi hd h, fun hr => ⟨deliverReady_isSome hr hi hd .diag, ?_, ?_, ?_⟩⟩
  · rintro k f hf rfl
    exact ⟨wire_deliverReady_isSome hr hi hd hf fun f => .frame f.link f.bytes,
      fun b => wire_deliverReady_isSome hr hi hd hf fun f => .frame f.link b⟩
  · exact fun k x hx hheld => expire_isSome hr hi hd hx hheld
  · exact fun p hon hp => offer_isSome hr hi hd hon hp

/-- Settles O58: the expiry of the latest start is held, carries the core's tag, and no later start keeps it back. -/
theorem aRunningTimerAlwaysHasAnExpiryDue : Obligations.ARunningTimerAlwaysHasAnExpiryDue := by
  intro c i d hc hi hq
  have hd := hc.nodes d (List.mem_of_getElem? hi)
  have hact : d.core.tmrActive = true := by simpa [State.quiescent] using hq
  obtain ⟨hgen, hheld, hdue⟩ := hd.tags
  obtain ⟨x, hx, hno, hlive⟩ := hdue hact
  obtain ⟨hxgen, -⟩ := hheld x hx
  obtain ⟨k, hk⟩ := List.mem_iff_getElem?.mp hx
  have hcur : x.gen = d.core.tmrGen := by rw [hxgen, hno, hgen]
  refine ⟨k, x, hk, expiryAccepted_eq_true.mpr ⟨hact, hcur⟩, hlive, fun hr => expire_isSome hr hi hd.inv hk ?_⟩
  have := Nat.two_pow_pos d.core.config.genW
  omega

/-! ### Runs -/

/-- Along a run the chain stays legal. -/
theorem IsRun.legal {moves : Nat → Option Move} {run : Nat → Chain} (h : IsRun moves run) (h0 : (run 0).Legal)
    (n : Nat) : (run n).Legal := by
  induction n with
  | zero => exact h0
  | succ n ih =>
    have hstep := h n
    split at hstep
    · exact dutifulEnvironmentsNeverCauseAFault _ _ _ ih hstep
    · rw [hstep]
      exact ih

/-- After its end a run stays where it is. -/
theorem IsRun.ended {moves : Nat → Option Move} {run : Nat → Chain} {n m : Nat} (h : IsRun moves run)
    (hend : EndsAt moves n) (hm : n ≤ m) : run m = run n := by
  induction m, hm using Nat.le_induction with
  | base => rfl
  | succ m hm ih =>
    have hstep := h m
    rw [hend m hm] at hstep
    exact hstep.trans ih

/-- Settles O59: a timer that runs has an expiry due, which fairness takes out of the facility; but after the end
nothing changes. -/
theorem aRunWithARunningTimerDoesNotEnd : Obligations.ARunWithARunningTimerDoesNotEnd := by
  intro moves run n hrun h0 hfair hend m hm
  refine List.all_eq_true.mpr fun d hd => ?_
  by_contra hq
  obtain ⟨i, hi⟩ := List.mem_iff_getElem?.mp hd
  obtain ⟨k, x, hk, -, hlive, -⟩ :=
    aRunningTimerAlwaysHasAnExpiryDue _ i d (hrun.legal h0 m) hi (by simpa using hq)
  have hx := List.mem_of_getElem? hk
  obtain ⟨m', d', hle, hi', hgone⟩ := hfair m i d x hi hx hlive
  rw [hrun.ended hend (hm.trans hle), ← hrun.ended hend hm, hi] at hi'
  cases hi'
  exact hgone hx

/-! ### Power-on -/

theorem Node.powerOn_legal (cf : Config) : (Node.powerOn cf).Legal where
  inv    := Machine.powerOn_legal cf
  fault  := rfl
  boot   := ⟨rfl, nofun⟩
  intake := rfl
  tags   := ⟨(tagOf_zero cf).symm, nofun, nofun⟩

/-- Settles O54: every node is at power-on, and none is booted yet. -/
theorem poweredOnChainsAreLegal : Obligations.PoweredOnChainsAreLegal := by
  intro configs
  constructor
  · intro d hd
    obtain ⟨cf, -, rfl⟩ := List.mem_map.mp hd
    exact Node.powerOn_legal cf
  · refine placesFit_iff.mpr fun i cfg hi => ?_
    simp [Chain.deployment, Chain.powerOn, Node.powerOn] at hi

end Sys2Proof.Machine
end

section
/-! FAMILY 60_exceptions.md. Progress from the invariant and idle steps (R205, R216), the outcome classes (R201 to R204),
and the cause of each status code (R200). -/
namespace Sys2Proof.Machine

/-! ### Progress -/

/-- Settles O38: a step is idle, or takes an event, which has an end in a legal state. -/
theorem nothingStopsTheNode : Obligations.NothingStopsTheNode := by
  intro s hs
  cases hi : s.inbox with
  | nil => exact ⟨s, step_idle hs.noKey hi⟩
  | cons e rest =>
    obtain ⟨t, ht⟩ := (hs.takeEvent rest).exists_effect e
    exact ⟨t, (step_event hs.noKey hi).trans ht.dispatchEvent_eq⟩

/-- Settles O9: by induction on the number of steps, each of them idle. -/
theorem nodeHoldsItsStateBetweenEvents : Obligations.NodeHoldsItsStateBetweenEvents := by
  intro s hk hi n
  induction n with
  | zero => rfl
  | succ n ih => exact core_run_succ_eq_next.mpr ⟨s, step_idle hk hi, ih⟩

/-! ### The outcome classes -/

/-- A state records one outcome class: its status determines it. -/
theorem State.recorded.unique {s : State} {c d : OutcomeClass} (hc : s.recorded c) (hd : s.recorded d) : c = d := by
  obtain ⟨a, ha, rfl⟩ := hc
  obtain ⟨b, hb, rfl⟩ := hd
  rw [Status.code_injective (ha.symm.trans hb)]

/-- The three ways an event ends (R201 to R204): it is dropped, raises a fault, or is accepted. -/
inductive Ending (s t : State) : Prop where
  | dropped (st : Status) (hc : t.recorded .discard ∨ t.recorded .ignore) (ht : t = drop st s)
  | faulted (f : FaultBit) (hc : t.recorded .fault) (ht : t = raiseFault f s)
  | accepted (hc : t.recorded .accept) (hfault : t.fault = s.fault)

theorem ending_raiseFault (f : FaultBit) (s : State) : Ending s (raiseFault f s) :=
  .faulted f ⟨f.status, rfl, by cases f <;> rfl⟩ rfl

theorem Effect.ending {s t : State} {e : Event} (h : Effect s e t) : Ending s t := by
  cases h with
  | unbooted => exact ending_raiseFault _ s
  | payloadFault p f => exact ending_raiseFault f s
  | discard l b c => exact .dropped _ (.inl ⟨.ofDiscard c, rfl, by cases c <;> rfl⟩) rfl
  | stale => exact .dropped _ (.inr ⟨.ignStaleTimer, rfl, rfl⟩) rfl
  | ignored l b k q p st hb hv hwhy =>
    have hclass : st.outcomeClass = .ignore := by
      rcases hwhy with ⟨rfl, -⟩ | ⟨rfl, -⟩ | ⟨rfl, -⟩ | ⟨rfl, -⟩ <;> rfl
    exact .dropped st (.inr ⟨st, rfl, hclass⟩) rfl
  | reack => exact .accepted ⟨.okReack, rfl, rfl⟩ rfl
  | _ => exact .accepted ⟨.ok, rfl, rfl⟩ rfl

/-- The end of a transition whose event was followed by `rest` in the inbox. -/
theorem Transition.effect_takeEvent {s t : State} {e : Event} {rest : List Event} (h : Transition s e t)
    (hi : s.inbox = e :: rest) : Effect (s.takeEvent rest) e t := by
  obtain ⟨hk, -, hs⟩ := h
  exact dispatchEvent_effect ((step_event hk hi).symm.trans hs)

/-- Settles O40: of the three endings only a drop records these classes, and it is the state with another status. -/
theorem dropsChangeOnlyTheStatus : Obligations.DropsChangeOnlyTheStatus := by
  intro s t e rest ht hi hclass
  cases (ht.effect_takeEvent hi).ending with
  | dropped st hc hend => rw [hend]; rfl
  | faulted f hc | accepted hc => rcases hclass with h | h <;> cases h.unique hc

/-- Settles O41: of the three endings only a raised fault records the class, and its bit and code are one of R204's
pairs. -/
theorem faultsChangeOnlyTheFaultBitAndStatus : Obligations.FaultsChangeOnlyTheFaultBitAndStatus := by
  intro s t e rest ht hi hclass
  cases (ht.effect_takeEvent hi).ending with
  | faulted f hc hend => exact ⟨f.mask, f.status.code, by cases f <;> decide, hend⟩
  | dropped st hc => rcases hc with h | h <;> cases h.unique hclass
  | accepted hc => cases hc.unique hclass

/-! ### Fault bits -/

/-- The fault register is as it was, or one bit was set in it. -/
def faultKeptOrRaised (s t : State) : Prop := t.fault = s.fault ∨ ∃ f : FaultBit, t.fault = s.fault ||| f.mask

theorem faultKeptOrRaised.sticky {s t : State} {b : Nat} (h : faultKeptOrRaised s t)
    (hb : s.fault.getLsbD b = true) : t.fault.getLsbD b = true := by
  rcases h with h | ⟨f, h⟩
  · rwa [h]
  · rw [h, BitVec.getLsbD_or, hb, Bool.true_or]

theorem Ending.faultKeptOrRaised {s t : State} (h : Ending s t) : faultKeptOrRaised s t := by
  cases h with
  | dropped st hc ht => rw [ht]; exact .inl rfl
  | faulted f hc ht => rw [ht]; exact .inr ⟨f, rfl⟩
  | accepted hc hfault => exact .inl hfault

/-- A next state that the outcome answers has the fault register of `s`. -/
def keepsFault (s : State) (o : Outcome) : Prop := ∀ t, o = .next t → t.fault = s.fault

theorem keepsFault_next {s t : State} (h : t.fault = s.fault) : keepsFault s (.next t) := by
  rintro _ ⟨⟩
  exact h

theorem keepsFault_refused (s : State) (why : Refusal) : keepsFault s (.refused why) := by rintro _ ⟨⟩

theorem keepsFault_withUnit {α : Type} {s : State} {k : α → State} (r : Except Refusal α)
    (h : ∀ a, (k a).fault = s.fault) : keepsFault s (withUnit r k) := by
  intro t ht
  obtain ⟨a, -, rfl⟩ := withUnit_next ht
  exact h a

theorem keepsFault_ite {c : Prop} [Decidable c] {s : State} {o o' : Outcome} (h : keepsFault s o)
    (h' : keepsFault s o') : keepsFault s (if c then o else o') := by
  split
  · exact h
  · exact h'

theorem execHData_keepsFault (q : SeqBit) (p : Bytes) (s : State) : keepsFault s (execHData q p s) :=
  keepsFault_ite (keepsFault_next rfl) (keepsFault_ite (keepsFault_next rfl) (keepsFault_next rfl))

theorem execHAck_keepsFault (q : SeqBit) (s : State) : keepsFault s (execHAck q s) :=
  keepsFault_ite (keepsFault_next rfl) (keepsFault_ite (keepsFault_next rfl) (keepsFault_next rfl))

theorem execHTimeout_keepsFault (s : State) : keepsFault s (execHTimeout s) :=
  keepsFault_ite (keepsFault_refused s _) (keepsFault_withUnit _ fun _ => rfl)

theorem execRData_keepsFault (q : SeqBit) (p : Bytes) (s : State) : keepsFault s (execRData q p s) := by
  unfold execRData
  refine keepsFault_ite (keepsFault_next rfl) <|
    keepsFault_ite (keepsFault_ite (keepsFault_next rfl) (keepsFault_next rfl)) (keepsFault_withUnit _ fun frame => ?_)
  simp

theorem execRAck_keepsFault (q : SeqBit) (s : State) : keepsFault s (execRAck q s) :=
  keepsFault_ite (keepsFault_next rfl) (keepsFault_next rfl)

theorem execRTimeout_keepsFault (s : State) : keepsFault s (execRTimeout s) :=
  keepsFault_ite (keepsFault_refused s _) (keepsFault_withUnit _ fun _ => rfl)

theorem execEncode_keepsFault (k : Kind) (q : SeqBit) (p : Bytes) (s : State) : keepsFault s (execEncode k q p s) :=
  keepsFault_withUnit _ fun _ => rfl

theorem execTimerExpire_keepsFault (g : Gen) (s : State) : keepsFault s (execTimerExpire g s) :=
  keepsFault_ite (keepsFault_next rfl) (keepsFault_next rfl)

theorem execHSend_faultKeptOrRaised {p : Bytes} {s t : State} (h : execHSend p s = .next t) :
    faultKeptOrRaised s t := by
  cases ha : admission p s with
  | none =>
    rw [execHSend_admitted ha] at h
    cases h
    exact .inl rfl
  | some f =>
    rw [execHSend_fault ha] at h
    cases h
    exact .inr ⟨f, rfl⟩

/-- Only H_SEND and R_PAYLOAD raise a fault, and no operation clears one. -/
theorem exec_faultKeptOrRaised {i : Instr} {s t : State} (h : exec i s = .next t) : faultKeptOrRaised s t := by
  cases i with
  | hSend p => exact execHSend_faultKeptOrRaised h
  | rPayload p =>
    cases h
    exact .inr ⟨.role, rfl⟩
  | hData q p => exact .inl (execHData_keepsFault q p s t h)
  | hAck q => exact .inl (execHAck_keepsFault q s t h)
  | hTimeout => exact .inl (execHTimeout_keepsFault s t h)
  | rData q p => exact .inl (execRData_keepsFault q p s t h)
  | rAck q => exact .inl (execRAck_keepsFault q s t h)
  | rTimeout => exact .inl (execRTimeout_keepsFault s t h)
  | encode k q p => exact .inl (execEncode_keepsFault k q p s t h)
  | timerExpire g => exact .inl (execTimerExpire_keepsFault g s t h)
  | boot | diag | validate | timerStart | timerCancel =>
    cases h
    exact .inl rfl

theorem runKey_faultKeptOrRaised {w : KeyWord} {s t : State} (h : runKey w s = .next t) : faultKeptOrRaised s t := by
  cases hd : decode w with
  | ok i => exact exec_faultKeptOrRaised ((runKey_of_decode_ok hd s).symm.trans h)
  | error why => exact nomatch (runKey_of_decode_error hd s).symm.trans h

/-- Every step, of a handed key, of an event or idle, leaves the fault register or sets one bit in it. -/
theorem step_faultKeptOrRaised {s t : State} (h : step s = .next t) : faultKeptOrRaised s t := by
  cases hk : s.keyPort with
  | some w => exact runKey_faultKeptOrRaised (s := s.takeKey) ((step_key hk).symm.trans h)
  | none =>
    cases hi : s.inbox with
    | nil =>
      rw [step_idle hk hi] at h
      cases h
      exact .inl rfl
    | cons e rest => exact (dispatchEvent_effect ((step_event hk hi).symm.trans h)).ending.faultKeptOrRaised

/-- Settles O39: `step_faultKeptOrRaised`, and setting a bit clears none. -/
theorem faultBitsAreSticky : Obligations.FaultBitsAreSticky := fun _ _ _ h hb => (step_faultKeptOrRaised h).sticky hb

/-! ### The cause of each status -/

/-- The event is a frame that VALIDATE discards for the reason `c`. -/
def discards (s : State) (e : Event) (c : Discard) : Prop :=
  ∃ l b, e = .frame l b ∧ validateFrame s.config b = .discard c

/-- The event is a valid DATA frame with another bit than `S.frameexpected`. -/
def mismatchesData (s : State) (e : Event) : Prop :=
  ∃ l b q p, e = .frame l b ∧ validateFrame s.config b = .valid .data q p ∧ q ≠ s.frameexpected

/-- The cause that R200 gives for each status, in the state that takes the event. -/
def Status.cause (s : State) (e : Event) : Status → Prop
  | .ok => True
  | .dropShort => discards s e .short
  | .dropChecksum => discards s e .checksum
  | .dropLength => discards s e .length
  | .dropFormat => discards s e .format
  | .okReack => s.config.reackDuplicates = true ∧ mismatchesData s e
  | .ignSeq => s.config.reackDuplicates = false ∧ (s.role = .router → s.bufFull = false) ∧ mismatchesData s e
  | .ignBusy => s.role = .router ∧ s.bufFull = true ∧
      ∃ l b q p, e = .frame l b ∧ validateFrame s.config b = .valid .data q p
  | .ignAck => (s.role = .host → s.sndWait = true) ∧
      ∃ l b q p, e = .frame l b ∧ validateFrame s.config b = .valid .ack q p ∧ q ≠ s.ackexpected
  | .ignIdleAck => s.role = .host ∧ s.sndWait = false ∧
      ∃ l b q p, e = .frame l b ∧ validateFrame s.config b = .valid .ack q p
  | .ignStaleTimer => ∃ g, e = .timer g ∧ (s.tmrActive = false ∨ g ≠ s.tmrGen)
  | .faultNotBooted => s.booted = false ∧ e.runTime = true
  | .faultIntake => s.role = .host ∧ s.intakeEn = false ∧ ∃ p, e = .payload p
  | .faultRole => s.role = .router ∧ ∃ p, e = .payload p
  | .faultOversize => s.role = .host ∧ s.intakeEn = true ∧ ∃ p, e = .payload p ∧ s.config.maxMsg < p.length

theorem cause_ofDiscard {s : State} {e : Event} {c : Discard} (h : discards s e c) :
    (Status.ofDiscard c).cause s e := by
  cases c <;> exact h

theorem stale_of_not_accepted {g : Gen} {s : State} (h : expiryAccepted g s = false) :
    s.tmrActive = false ∨ g ≠ s.tmrGen := by
  cases ha : s.tmrActive with
  | false => exact .inl rfl
  | true => exact .inr fun hg => absurd (h.symm.trans (expiryAccepted_eq_true.mpr ⟨ha, hg⟩)) nofun

/-- The check of R183 that fails is the cause of the fault. -/
theorem cause_of_admission {p : Bytes} {f : FaultBit} {s : State} (h : admission p s = some f) :
    f.status.cause s (.payload p) := by
  cases hr : s.role with
  | router =>
    rw [admission_router hr] at h
    cases h
    exact ⟨hr, p, rfl⟩
  | host =>
    cases hi : s.intakeEn with
    | false =>
      rw [admission_intakeOff hr hi] at h
      cases h
      exact ⟨hr, hi, p, rfl⟩
    | true =>
      by_cases hp : p.length ≤ s.config.maxMsg
      · exact absurd ((admission_eq_none.mpr ⟨hr, hi, hp⟩).symm.trans h) nofun
      · rw [admission_oversize hr hi (by omega)] at h
        cases h
        exact ⟨hr, hi, p, rfl, by omega⟩

/-- Every event records a status of the table, by its cause. -/
theorem Effect.status_cause {s t : State} {e : Event} (h : Effect s e t) :
    ∃ st : Status, t.status = st.code ∧ st.cause s e := by
  cases h with
  | unbooted _ he hb => exact ⟨.faultNotBooted, rfl, hb, he⟩
  | discard l b c hb hv => exact ⟨.ofDiscard c, rfl, cause_ofDiscard ⟨l, b, rfl, hv⟩⟩
  | ignored l b k q p st hb hv hwhy =>
    refine ⟨st, rfl, ?_⟩
    rcases hwhy with ⟨rfl, rfl, hq, hd, hf⟩ | ⟨rfl, rfl, hr, hf⟩ | ⟨rfl, rfl, hq, hw⟩ | ⟨rfl, rfl, hr, hw⟩
    · exact ⟨hd, hf, l, b, q, p, rfl, hv, hq⟩
    · exact ⟨hr, hf, l, b, q, p, rfl, hv⟩
    · exact ⟨hw, l, b, q, p, rfl, hv, hq⟩
    · exact ⟨hr, hw, l, b, q, p, rfl, hv⟩
  | reack l b q p hb hv hd hq => exact ⟨.okReack, rfl, hd, l, b, q, p, rfl, hv, hq⟩
  | stale g hb ha => exact ⟨.ignStaleTimer, rfl, g, rfl, stale_of_not_accepted ha⟩
  | payloadFault p f hb ha => exact ⟨f.status, rfl, cause_of_admission ha⟩
  | _ => exact ⟨.ok, rfl, trivial⟩

/-- Settles O46: the status recorded has its cause, and a code names one status. -/
theorem statusCodesNameTheirCauses : Obligations.StatusCodesNameTheirCauses := by
  intro s t e ht
  obtain ⟨rest, -, h⟩ := ht.effect
  obtain ⟨st, hst, hcause⟩ := h.status_cause
  have named (c : Status) (hc : t.status = c.code) : c.cause (s.takeEvent rest) e :=
    Status.code_injective (hst.symm.trans hc) ▸ hcause
  exact ⟨⟨st, hst⟩, named .dropShort, named .dropChecksum, named .dropLength, named .dropFormat, named .okReack,
    named .ignSeq, named .ignBusy, named .ignAck, named .ignIdleAck, named .ignStaleTimer, named .faultNotBooted,
    named .faultIntake, named .faultRole, named .faultOversize⟩

end Sys2Proof.Machine
end

section
/-! FAMILY 70_reset_and_hazards.md. Power-on and the run-time events before the first BOOT (R230), and when the payload
buffer is overwritten (R237). -/
namespace Sys2Proof.Machine

/-! ### The payload buffer -/

/-- What a run-time event can do to the payload buffer: nothing, store the payload that H_SEND admits, or store the
payload and the bit that R_DATA forwards. -/
inductive BufferStep (s : State) (e : Event) (t : State) : Prop where
  | kept (hlen : t.bufLen = s.bufLen) (hdata : t.bufData = s.bufData) (hseq : t.bufSeq = s.bufSeq)
  | sent (p : Bytes) (he : e = .payload p) (ha : admission p s = none) (hdata : t.bufData = p)
  | forwarded (l : Link) (b : Bytes) (q : SeqBit) (p : Bytes) (he : e = .frame l b) (hr : s.role = .router)
      (hempty : s.bufFull = false) (hv : validateFrame s.config b = .valid .data q p) (hdata : t.bufData = p)
      (hseq : t.bufSeq = q)

theorem Effect.bufferStep {s t : State} {e : Event} (h : Effect s e t) (he : e.runTime = true) : BufferStep s e t := by
  cases h with
  | boot => cases he
  | sent p hb ha => exact .sent p rfl ha rfl
  | forwarded l b q p hb hr hv hempty => exact .forwarded l b q p rfl hr hempty hv rfl rfl
  | _ => exact .kept rfl rfl rfl

/-- Settles O49: `Effect.bufferStep`, and a payload is admitted only by a host, which in a legal state is then IDLE. -/
theorem bufferIsOverwrittenOnlyWhenTheWindowAdvances : Obligations.BufferIsOverwrittenOnlyWhenTheWindowAdvances := by
  intro s t e hs ht he hne
  obtain ⟨rest, -, h⟩ := ht.effect
  cases h.bufferStep he with
  | kept hlen hdata hseq => exact absurd hne (by simp [hlen, hdata, hseq])
  | sent p hp ha hdata =>
    have hhost : s.role = .host := (admission_eq_none.mp ha).1
    exact .inl ⟨hhost, (hs.host hhost).idle_of_admission ha, p, hp, hdata⟩
  | forwarded l b q p hf hr hempty hv hdata hseq => exact .inr ⟨hr, hempty, l, b, q, p, hf, hv, hdata, hseq⟩

/-! ### Power-on -/

/-- Settles O1: the power-on record field by field, and `step_unbooted`, whose fault is F_NOT_BOOTED. -/
theorem powerOnIsAllZeroAndRunTimeEventsFault : Obligations.PowerOnIsAllZeroAndRunTimeEventsFault :=
  ⟨by decide, fun _ _ _ hb hk hi he => step_unbooted hk hb he hi⟩

end Sys2Proof.Machine
end
